-- ==== Sys2Proof/Word.lean ====
section
/-! DEFINITION. The word types of the block and the closed sets of names its registers, operands and codes speak of.
The widths are the spec's (00_scope R10, R11; 30_encoding R80). -/

namespace Sys2Proof

/-- One byte of the sensor frame, a pin identifier, a try count (10_state R20, R22, R26). -/
abbrev Byte := BitVec 8

/-- A number of milliseconds, `TIME_BITS = 32` wide (00_scope R11). -/
abbrev Time := BitVec 32

/-- One host command word (30_encoding R81). -/
abbrev CommandWord := BitVec 16

/-- One response word (30_encoding R86). -/
abbrev ResponseWord := BitVec 64

/-- The two sensor models (00_scope R3, 10_state R25): the 22-type and the 11-type. -/
inductive Profile where
  | dht22
  | dht11
deriving DecidableEq, Repr, Inhabited

/-- The acquisition states (10_state R24), the block's program counter (00_scope R12). -/
inductive AcqState where
  | idle
  | start
  | sendStart
  | sampling
deriving DecidableEq, Repr

/-- The result statuses (10_state R23). -/
inductive Status where
  | success
  | error
  | tooManyRetries
  | busy
deriving DecidableEq, Repr

/-- The direction of the line pin (10_state R33). -/
inductive LineDir where
  | input
  | output
deriving DecidableEq, Repr

/-- The level driven when the direction is output (10_state R33). -/
inductive LineLevel where
  | low
  | high
deriving DecidableEq, Repr

end Sys2Proof
end

