-- ==== Sys2Proof/Config.lean ====
section
/-! DEFINITION. The constants the source fixes (00_scope R9) and the implementation parameters it leaves open
(00_scope R10). The open ones have no body, so no proof can see a value of them. -/

namespace Sys2Proof

/-- The two configuration constants and the display name of one profile (00_scope R10, 44 R200). -/
structure ProfileParams where
  /-- `MIN_PERIOD_MS[p]` -/
  minPeriodMs : Time
  /-- `ONE_BIT_THRESHOLD[p]` -/
  oneBitThreshold : Nat
  /-- `NAME[p]`; no rule reads it (log 22) -/
  name : String
deriving DecidableEq, Repr, Inhabited

/-- The implementation parameters of 00_scope R10 that are plain data. -/
structure Params where
  /-- `WORD_BITS` -/
  wordBits : Nat
  /-- `BUF_WORDS` -/
  bufWords : Nat
  /-- `SAMPLE_RATE`; no rule reads it (log 22) -/
  sampleRate : Nat
  /-- `SAMPLE_WAIT_MS` -/
  sampleWaitMs : Time
  /-- the constants of the 22-type -/
  dht22 : ProfileParams
  /-- the constants of the 11-type -/
  dht11 : ProfileParams
deriving DecidableEq, Repr, Inhabited

/-- `N_SAMPLES = BUF_WORDS * WORD_BITS` (00_scope R10). -/
def Params.nSamples (p : Params) : Nat := p.bufWords * p.wordBits

/-- The constants of one profile. -/
def Params.profile (p : Params) : Profile → ProfileParams
  | .dht22 => p.dht22
  | .dht11 => p.dht11

/-- The profile constants with the threshold brought under the bound `n` that 00_scope R10 sets. -/
def ProfileParams.clamp (n : Nat) (q : ProfileParams) : ProfileParams :=
  { q with oneBitThreshold := min q.oneBitThreshold n }

/-- Parameters that meet the constraints of 00_scope R10 (`WORD_BITS >= 1`, `BUF_WORDS >= 1`,
`0 <= ONE_BIT_THRESHOLD[p] <= N_SAMPLES`), made from any. A tuple that meets them already is reached (Laws/Config.lean). -/
def Params.normalise (p : Params) : Params :=
  { p with
    wordBits := p.wordBits + 1
    bufWords := p.bufWords + 1
    dht22 := p.dht22.clamp ((p.bufWords + 1) * (p.wordBits + 1))
    dht11 := p.dht11.clamp ((p.bufWords + 1) * (p.wordBits + 1)) }

namespace Config

/-- `FRAME_BITS` (00_scope R9). -/
def frameBits : Int := 40

/-- `PAIR_START` (00_scope R9). -/
def pairStart : Int := -2

/-- `START_PULSE_MS` (00_scope R9). -/
def startPulseMs : Time := 18#32

/-- `MAX_TRIES_DEFAULT` (00_scope R9). -/
def maxTriesDefault : Byte := 4#8

/-- `PROFILE_DEFAULT` (00_scope R9). -/
def profileDefault : Profile := .dht22

/-- The open parameters before they are brought under their constraints: no body, no value.
DESIGN CHOICE (log 4), safe. -/
opaque freeParams : Params

/-- The parameters of the block instance that `State.reset` is the reset state of (00_scope R10). -/
def params : Params := freeParams.normalise

/-- `DEWPOINT_C10` (00_scope R10, 44 R208): depends on its two arguments alone; nothing else may be assumed.
DESIGN CHOICE (log 5), safe. -/
opaque dewPointC10 : Int → Int → Int

/-- A word of the raw capture buffer after `Capture.stop()`, where the contents are unspecified (20_memory R77, 93 U3): of
the number of stops before, the contents before as (word index, word) pairs, and the word index. No body, no value: keeping
the contents is among what it may be, and so is scrambling them. DESIGN CHOICE (log 7), safe. -/
opaque discardedWord : Nat → List (Nat × Nat) → Nat → Nat

end Config

end Sys2Proof
end

