-- ==== Sys2Proof/Syntax.lean ====
section
/-! DEFINITION. The operations of the block, one constructor per row of spec/opcode_table.json: the sixteen host commands
(format CMD), the eleven transitions SERVICE selects (format SEL) and the two a REQUEST selects (format RSEL).
An "instruction" is an operation in the sense of 00_scope R12. -/

namespace Sys2Proof

/-- The operations. Each operand has exactly the width the spec gives it, so every term is well formed. -/
inductive Instr where
  /-- INIT, 40 R111 -/
  | init
  /-- REQUEST, 40 R112 -/
  | request (pin : Byte) (profile : Profile)
  /-- SERVICE, 40 R113 -/
  | service
  /-- SETMAXTRIES, 40 R114 -/
  | setMaxTries (n : Byte)
  /-- CANSTART, 40 R115 -/
  | canStart
  /-- GETRESULT, 40 R116 -/
  | getResult
  /-- ISSUCCESS, 40 R117 -/
  | isSuccess
  /-- ISBUSY, 40 R118 -/
  | isBusy
  /-- ISERROR, 40 R119 -/
  | isError
  /-- ISTOOMANYRETRIES, 40 R120 -/
  | isTooManyRetries
  /-- GETTEMPC, 40 R121 -/
  | getTempC
  /-- GETTEMPF, 40 R122 -/
  | getTempF
  /-- GETHUMIDITY, 40 R123 -/
  | getHumidity
  /-- GETDEWPOINTC, 40 R124 -/
  | getDewPointC
  /-- GETDEWPOINTF, 40 R125 -/
  | getDewPointF
  /-- GETTRIES, 40 R126 -/
  | getTries
  /-- SVC.IDLE, 41 R141 -/
  | svcIdle
  /-- START.WAIT, 41 R142 -/
  | startWait
  /-- START.GO, 41 R143 -/
  | startGo
  /-- SENDSTART.WAIT, 41 R144 -/
  | sendStartWait
  /-- SENDSTART.GO, 41 R145 -/
  | sendStartGo
  /-- SENDSTART.FAIL, 41 R146 -/
  | sendStartFail
  /-- SAMPLING.WAIT, 41 R148 -/
  | samplingWait
  /-- SAMPLING.TIMEOUT, 41 R149 -/
  | samplingTimeout
  /-- SAMPLING.RETRY, 41 R150 -/
  | samplingRetry
  /-- SAMPLING.EXHAUSTED, 41 R151 -/
  | samplingExhausted
  /-- SAMPLING.SUCCESS, 41 R152 -/
  | samplingSuccess
  /-- REQ.ACCEPT, 41 R156 -/
  | reqAccept (pin : Byte) (profile : Profile)
  /-- REQ.BUSY, 41 R157; the rejected request's pin is dropped -/
  | reqBusy (profile : Profile)
deriving DecidableEq, Repr

end Sys2Proof
end

