-- ==== Sys2Proof/WellFormed.lean ====
section
/-! DEFINITION. The checks on raw data: the constraints on the implementation parameters (00_scope R10) and the shape of the
word list a completed capture delivers (20_memory R66). The operands of `Instr` carry their widths in their types
(30_encoding R83, R84), so no term of `Instr` is ill formed. Each check is a Bool, with an ill-formed term for each
clause in Tests/Slice0.lean. -/

namespace Sys2Proof

/-- The constraints of 00_scope R10. -/
def Params.wellFormed (p : Params) : Bool :=
  decide (1 ≤ p.wordBits) && decide (1 ≤ p.bufWords) &&
    decide (p.dht22.oneBitThreshold ≤ p.nSamples) && decide (p.dht11.oneBitThreshold ≤ p.nSamples)

/-- The words a capture delivers: `BUF_WORDS` words of `WORD_BITS` bits (20_memory R66). -/
def captureFits (p : Params) (words : List Nat) : Bool :=
  decide (words.length = p.bufWords) && words.all (fun v => decide (v < 2 ^ p.wordBits))

end Sys2Proof
end

