-- ==== Sys2Proof/Decode.lean ====
section
/-! DEFINITION. The codes of 30_encoding (R87 to R90, R101), the decoder of the three formats CMD, SEL and RSEL (R81 to R85,
R94, R95, R102), the encoder, and the rows of the opcode table. -/

namespace Sys2Proof

/-! ### Codes -/

/-- 30_encoding R90. -/
def Profile.code : Profile → BitVec 1
  | .dht22 => 0#1
  | .dht11 => 1#1

/-- 30_encoding R90. -/
def Profile.ofCode (c : BitVec 1) : Profile := if c = 0#1 then .dht22 else .dht11

/-- 30_encoding R89. -/
def AcqState.code : AcqState → BitVec 2
  | .idle => 0b00#2
  | .start => 0b01#2
  | .sendStart => 0b10#2
  | .sampling => 0b11#2

/-- 30_encoding R89. -/
def AcqState.ofCode (c : BitVec 2) : AcqState :=
  if c = 0b00#2 then .idle else if c = 0b01#2 then .start else if c = 0b10#2 then .sendStart else .sampling

/-- 30_encoding R88. -/
def Status.code : Status → BitVec 2
  | .success => 0b00#2
  | .error => 0b01#2
  | .tooManyRetries => 0b10#2
  | .busy => 0b11#2

/-- 30_encoding R88. -/
def Status.ofCode (c : BitVec 2) : Status :=
  if c = 0b00#2 then .success else if c = 0b01#2 then .error else if c = 0b10#2 then .tooManyRetries else .busy

/-- 30_encoding R101. -/
def LineDir.code : LineDir → BitVec 1
  | .input => 0#1
  | .output => 1#1

/-- 30_encoding R101. -/
def LineLevel.code : LineLevel → BitVec 1
  | .low => 0#1
  | .high => 1#1

/-! ### The transition selector -/

/-- The eleven transitions a SERVICE can take (30_encoding R95). -/
inductive Transition where
  | svcIdle
  | startWait
  | startGo
  | sendStartWait
  | sendStartGo
  | sendStartFail
  | samplingWait
  | samplingTimeout
  | samplingRetry
  | samplingExhausted
  | samplingSuccess
deriving DecidableEq, Repr

/-- A transition as an operation. -/
def Transition.toInstr : Transition → Instr
  | .svcIdle => .svcIdle
  | .startWait => .startWait
  | .startGo => .startGo
  | .sendStartWait => .sendStartWait
  | .sendStartGo => .sendStartGo
  | .sendStartFail => .sendStartFail
  | .samplingWait => .samplingWait
  | .samplingTimeout => .samplingTimeout
  | .samplingRetry => .samplingRetry
  | .samplingExhausted => .samplingExhausted
  | .samplingSuccess => .samplingSuccess

/-- The selector `SEL` with its nine bits apart (30_encoding R94). -/
structure Sel where
  st : AcqState
  gateOpen : Bool
  pulseDone : Bool
  capOk : Bool
  capDone : Bool
  waitExpired : Bool
  frameValid : Bool
  budgetSpent : Bool
deriving DecidableEq, Repr

/-- The nine bits in their places (30_encoding R94). -/
def Sel.toWord (s : Sel) : BitVec 9 :=
  s.st.code ++ BitVec.ofBool s.gateOpen ++ BitVec.ofBool s.pulseDone ++ BitVec.ofBool s.capOk ++
    BitVec.ofBool s.capDone ++ BitVec.ofBool s.waitExpired ++ BitVec.ofBool s.frameValid ++
    BitVec.ofBool s.budgetSpent

/-- The fields of a nine-bit selector word (30_encoding R94). -/
def Sel.ofWord (w : BitVec 9) : Sel where
  st := AcqState.ofCode (w.extractLsb' 7 2)
  gateOpen := w.getLsbD 6
  pulseDone := w.getLsbD 5
  capOk := w.getLsbD 4
  capDone := w.getLsbD 3
  waitExpired := w.getLsbD 2
  frameValid := w.getLsbD 1
  budgetSpent := w.getLsbD 0

/-- The row of 30_encoding R95 a selector matches. In Sampling the order of tests is that of 60_exceptions R229. -/
def Sel.transition (s : Sel) : Transition :=
  match s.st with
  | .idle => .svcIdle
  | .start => if s.gateOpen then .startGo else .startWait
  | .sendStart =>
    if s.pulseDone then (if s.capOk then .sendStartGo else .sendStartFail) else .sendStartWait
  | .sampling =>
    if s.capDone then
      (if s.frameValid then .samplingSuccess
        else if s.budgetSpent then .samplingExhausted else .samplingRetry)
    else if s.waitExpired then .samplingTimeout else .samplingWait

/-! ### Decoding -/

/-- Why the decoder refuses a command word (30_encoding R96). -/
inductive DecodeError where
  /-- `op` is 0x0 or 0x8 to 0xF -/
  | reservedOp (op : BitVec 4)
  /-- `op` is 0x7 and `sel` is 0xA to 0xF -/
  | reservedAccessor (sel : BitVec 4)
  /-- a must-be-zero bit of a defined operation is set -/
  | reservedOperandBits (op : BitVec 4)
deriving DecidableEq, Repr

/-- The accessor `sel` selects (30_encoding R85). -/
def decodeAccessor (sel : BitVec 4) : Except DecodeError Instr :=
  if sel = 0x0#4 then .ok .isSuccess
  else if sel = 0x1#4 then .ok .isBusy
  else if sel = 0x2#4 then .ok .isError
  else if sel = 0x3#4 then .ok .isTooManyRetries
  else if sel = 0x4#4 then .ok .getTempC
  else if sel = 0x5#4 then .ok .getTempF
  else if sel = 0x6#4 then .ok .getHumidity
  else if sel = 0x7#4 then .ok .getDewPointC
  else if sel = 0x8#4 then .ok .getDewPointF
  else if sel = 0x9#4 then .ok .getTries
  else .error (.reservedAccessor sel)

/-- The word decodes to `r` when its must-be-zero bits are 0 (30_encoding R81, R96). -/
def whenZero {n : Nat} (mustBeZero : BitVec n) (op : BitVec 4) (r : Except DecodeError Instr) :
    Except DecodeError Instr :=
  if mustBeZero = 0#n then r else .error (.reservedOperandBits op)

/-- The decoder of command words, total on the 65536 words (30_encoding R81 to R85, R96). -/
def decodeCommand (w : CommandWord) : Except DecodeError Instr :=
  let op : BitVec 4 := w.extractLsb' 12 4
  if op = 0x1#4 then whenZero (w.extractLsb' 0 12) op (.ok .init)
  else if op = 0x2#4 then
    whenZero (w.extractLsb' 9 3) op
      (.ok (.request (w.extractLsb' 0 8) (Profile.ofCode (w.extractLsb' 8 1))))
  else if op = 0x3#4 then whenZero (w.extractLsb' 0 12) op (.ok .service)
  else if op = 0x4#4 then whenZero (w.extractLsb' 8 4) op (.ok (.setMaxTries (w.extractLsb' 0 8)))
  else if op = 0x5#4 then whenZero (w.extractLsb' 0 12) op (.ok .canStart)
  else if op = 0x6#4 then whenZero (w.extractLsb' 0 12) op (.ok .getResult)
  else if op = 0x7#4 then
    whenZero (w.extractLsb' 4 8) op (decodeAccessor (w.extractLsb' 0 4))
  else .error (.reservedOp op)

/-- The transition a selector word selects; every one of the 512 words selects one (30_encoding R95). -/
def decodeSelector (w : BitVec 9) : Instr := (Sel.ofWord w).transition.toInstr

/-- The operation a REQUEST selects, with the operands of the REQUEST word (30_encoding R102, 41 R156, R157). -/
def decodeRequestSelector (idle : BitVec 1) (pin : Byte) (profile : Profile) : Instr :=
  if idle = 1#1 then .reqAccept pin profile else .reqBusy profile

/-- An encoded operation: a word of one of the three formats. A RSEL operation is the selector bit with the operand
fields `profile` and `pin` of the REQUEST word (log 10). -/
inductive OpWord where
  | cmd (w : CommandWord)
  | sel (w : BitVec 9)
  | rsel (idle : BitVec 1) (profile : BitVec 1) (pin : Byte)
deriving DecidableEq, Repr

/-- The decoder of all three formats. -/
def decode : OpWord → Except DecodeError Instr
  | .cmd w => decodeCommand w
  | .sel w => .ok (decodeSelector w)
  | .rsel idle profile pin => .ok (decodeRequestSelector idle pin (Profile.ofCode profile))

/-! ### Encoding -/

/-- The word of each operation (30_encoding R82 to R85, R95, R102); a selector's free bits are 0. -/
def encode : Instr → OpWord
  | .init => .cmd 0x1000#16
  | .request pin profile => .cmd (0x2#4 ++ 0#3 ++ profile.code ++ pin)
  | .service => .cmd 0x3000#16
  | .setMaxTries n => .cmd (0x4#4 ++ 0#4 ++ n)
  | .canStart => .cmd 0x5000#16
  | .getResult => .cmd 0x6000#16
  | .isSuccess => .cmd 0x7000#16
  | .isBusy => .cmd 0x7001#16
  | .isError => .cmd 0x7002#16
  | .isTooManyRetries => .cmd 0x7003#16
  | .getTempC => .cmd 0x7004#16
  | .getTempF => .cmd 0x7005#16
  | .getHumidity => .cmd 0x7006#16
  | .getDewPointC => .cmd 0x7007#16
  | .getDewPointF => .cmd 0x7008#16
  | .getTries => .cmd 0x7009#16
  | .svcIdle => .sel 0x000#9
  | .startWait => .sel 0x080#9
  | .startGo => .sel 0x0C0#9
  | .sendStartWait => .sel 0x100#9
  | .sendStartGo => .sel 0x130#9
  | .sendStartFail => .sel 0x120#9
  | .samplingWait => .sel 0x180#9
  | .samplingTimeout => .sel 0x184#9
  | .samplingRetry => .sel 0x188#9
  | .samplingExhausted => .sel 0x189#9
  | .samplingSuccess => .sel 0x18A#9
  | .reqAccept pin profile => .rsel 1#1 profile.code pin
  | .reqBusy profile => .rsel 0#1 profile.code 0#8

/-! ### The opcode table -/

/-- A row of spec/opcode_table.json: the format is the constructor, `code` the row's match. -/
inductive TableRow where
  | cmd (code mask : BitVec 16)
  | sel (code mask : BitVec 9)
  | rsel (code mask : BitVec 1)
deriving DecidableEq, Repr

/-- The row of each operation, match and mask as the table has them. -/
def Instr.row : Instr → TableRow
  | .init => .cmd 0x1000#16 0xFFFF#16
  | .request _ _ => .cmd 0x2000#16 0xFE00#16
  | .service => .cmd 0x3000#16 0xFFFF#16
  | .setMaxTries _ => .cmd 0x4000#16 0xFF00#16
  | .canStart => .cmd 0x5000#16 0xFFFF#16
  | .getResult => .cmd 0x6000#16 0xFFFF#16
  | .isSuccess => .cmd 0x7000#16 0xFFFF#16
  | .isBusy => .cmd 0x7001#16 0xFFFF#16
  | .isError => .cmd 0x7002#16 0xFFFF#16
  | .isTooManyRetries => .cmd 0x7003#16 0xFFFF#16
  | .getTempC => .cmd 0x7004#16 0xFFFF#16
  | .getTempF => .cmd 0x7005#16 0xFFFF#16
  | .getHumidity => .cmd 0x7006#16 0xFFFF#16
  | .getDewPointC => .cmd 0x7007#16 0xFFFF#16
  | .getDewPointF => .cmd 0x7008#16 0xFFFF#16
  | .getTries => .cmd 0x7009#16 0xFFFF#16
  | .svcIdle => .sel 0x000#9 0x180#9
  | .startWait => .sel 0x080#9 0x1C0#9
  | .startGo => .sel 0x0C0#9 0x1C0#9
  | .sendStartWait => .sel 0x100#9 0x1A0#9
  | .sendStartGo => .sel 0x130#9 0x1B0#9
  | .sendStartFail => .sel 0x120#9 0x1B0#9
  | .samplingWait => .sel 0x180#9 0x18C#9
  | .samplingTimeout => .sel 0x184#9 0x18C#9
  | .samplingRetry => .sel 0x188#9 0x18B#9
  | .samplingExhausted => .sel 0x189#9 0x18B#9
  | .samplingSuccess => .sel 0x18A#9 0x18A#9
  | .reqAccept _ _ => .rsel 1#1 1#1
  | .reqBusy _ => .rsel 0#1 1#1

/-- A word matches a row of its own format: `word & mask = match` (30_encoding R95). -/
def OpWord.fits : OpWord → TableRow → Bool
  | .cmd w, .cmd code mask => decide (w &&& mask = code)
  | .sel w, .sel code mask => decide (w &&& mask = code)
  | .rsel idle _ _, .rsel code mask => decide (idle &&& mask = code)
  | _, _ => false

/-! ### The host's numbering of table words -/

/-- A table row's bits as an encoded operation: the formats are told apart by their size in whole bytes (RSEL one byte, CMD
and SEL two) and, between the last two, by the value, since no command word is below 0x1000 and no selector above 0x1FF
(log 10). Operand words the table gives no bits are 0: pin 0, the 22-type. -/
def tableWord (nbits w : Nat) : Option OpWord :=
  if nbits ≤ 8 then
    (if w < 2 then some (.rsel (BitVec.ofNat 1 w) 0#1 0#8) else none)
  else if nbits ≤ 16 then
    (if w < 0x200 then some (.sel (BitVec.ofNat 9 w))
      else if w < 0x10000 then some (.cmd (BitVec.ofNat 16 w)) else none)
  else none

/-- The instruction the decoder reads from a table row's bits. -/
def decodeTableWord (nbits w : Nat) : Option Instr :=
  match tableWord nbits w with
  | none => none
  | some o =>
    match decode o with
    | .ok i => some i
    | .error _ => none

end Sys2Proof
end

