-- ==== Sys2Proof/Machine/State.lean ====
section
/-! DEFINITION. The state of the block as plain data (10_state R20 to R35, R50), the moves of its environment
(00_scope R5, 70_reset R272), the reasons a step can stop, and the state after reset. -/

namespace Sys2Proof.Machine

/-- The five bytes of a frame: `b0` humidity-high, `b1` humidity-low, `b2` temperature-high, `b3` temperature-low,
`b4` checksum (10_state R21). -/
structure FrameBytes where
  b0 : Byte
  b1 : Byte
  b2 : Byte
  b3 : Byte
  b4 : Byte
deriving DecidableEq, Repr

/-- A Sample value, and the stored Sample register (10_state R20, R39). `profile` is the register of R25. -/
structure Sample where
  profile : Profile
  status : Status
  tries : Byte
  bytes : FrameBytes
deriving DecidableEq, Repr

/-- One word of the raw capture buffer with its word index. The buffer has no bytes (20_memory R61, R64), so a cell holds a
word as a number. DESIGN CHOICE (log 6), safe. -/
abbrev Cell := Nat × Nat

/-- The raw capture buffer: a list of cells in the canonical form of `Memory.wf`. -/
abbrev Memory := List Cell

/-- What a word that no capture has written reads as. DESIGN CHOICE (log 6), unsafe; no rule reads such a word. -/
def unwrittenWord : Nat := 0

/-- The canonical form: word indices strictly rising, no cell equal to what an unlisted word reads as. -/
abbrev Memory.wf (m : Memory) : Prop :=
  m.Pairwise (fun a b => a.1 < b.1) ∧ ∀ c ∈ m, c.2 ≠ unwrittenWord

/-- Every cell is a word of the buffer: index below `BUF_WORDS`, value of `WORD_BITS` bits (20_memory R61). -/
abbrev Memory.fits (p : Params) (m : Memory) : Prop :=
  ∀ c ∈ m, c.1 < p.bufWords ∧ c.2 < 2 ^ p.wordBits

/-- A call on an external device (00_scope R17), with the pin it is given. -/
inductive ExternalCall where
  | gpioOutputLow (pin : Byte)
  | gpioInput (pin : Byte)
  | captureStart (pin : Byte)
  | captureStop
deriving DecidableEq, Repr

/-- What the last transaction put on the output ports (10_state R34, R58). DESIGN CHOICE (log 3), safe but for the response and
error ports right after power-on. -/
structure Outputs where
  /-- `rsp_valid` and `rsp`: the response word of a command (30_encoding R86) -/
  rsp : Option ResponseWord
  /-- `cmd_err`: the command word was reserved (30_encoding R96) -/
  cmdErr : Bool
  /-- `done_valid` and `done_sample`: the completion event (10_state R34) -/
  completion : Option Sample
  /-- the calls on the external devices, in their order (00_scope R17) -/
  calls : List ExternalCall
deriving DecidableEq, Repr

/-- Nothing on the output ports. -/
def Outputs.quiet : Outputs where
  rsp := none
  cmdErr := false
  completion := none
  calls := []

/-- One move of an agent outside the state machine (00_scope R5, R11; 70_reset R272). DESIGN CHOICE (log 1), safe. -/
inductive Move where
  /-- the host presents a command word with the clock value; `capOk` is the answer `Capture.configure_and_start` gives if
  the command makes that call (60_exceptions R233) -/
  | command (word : CommandWord) (now : Time) (capOk : Bool)
  /-- the capture peripheral completes a capture: it fills the buffer with `words` and notifies (60_exceptions R226) -/
  | capture (words : List Nat)
  /-- the reset input (70_reset R250) -/
  | reset
deriving DecidableEq, Repr

/-- The state of the block and of its ports. -/
structure State where
  /-- the parameters of 00_scope R10; the model's own field, written by no step. DESIGN CHOICE (log 4), safe -/
  cfg : Params
  /-- the moves still to come, oldest first; the model's own field. DESIGN CHOICE (log 1), safe -/
  moves : List Move
  /-- the port `now`, as sampled with the command (00_scope R11) -/
  now : Time
  /-- the port `cap_ok` (10_state R58) -/
  capOk : Bool
  /-- `state` (10_state R24) -/
  state : AcqState
  /-- the Sample register with the register `profile` (10_state R20, R25) -/
  result : Sample
  /-- `pin` (10_state R26) -/
  pin : Byte
  /-- `max_tries` (10_state R27) -/
  maxTries : Byte
  /-- `state_time` (10_state R28) -/
  stateTime : Time
  /-- `last_query_time` (10_state R29) -/
  lastQueryTime : Time
  /-- `cap_done` (10_state R30) -/
  capDone : Bool
  /-- `capturing` (10_state R31) -/
  capturing : Bool
  /-- `inited` (10_state R32) -/
  inited : Bool
  /-- `line_dir` (10_state R33) -/
  lineDir : LineDir
  /-- `line_out` (10_state R33) -/
  lineOut : LineLevel
  /-- `buf` (10_state R35) -/
  buf : Memory
  /-- the output ports -/
  out : Outputs
  /-- how many times the buffer was given up by `Capture.stop()`; the model's own field, which makes the contents that are
  unspecified after each a free value of their own. DESIGN CHOICE (log 7), safe -/
  discards : Nat
deriving DecidableEq, Repr

/-- The block has no fault: "no step of the block faults; the statuses are ordinary values" (60_exceptions R242). So the type
has no constructor, and no step can end in a fault. DEDUCED (log 16), safe. -/
inductive Fault where
deriving DecidableEq, Repr

/-- Why a step has no meaning. No operation of the block is among the reasons. -/
inductive Refusal where
  /-- an operation without a meaning yet; raised by no arm. Safe. -/
  | notModelled (mnemonic : String)
  /-- raised by a `Move.capture` while `capturing = 1`, `cap_done = 0`, `inited = 1` do not all hold: the spec has no such
  step (60_exceptions R226, 93 U12). Safe. -/
  | captureNotEnabled
  /-- raised by a `Move.capture` whose list is not `BUF_WORDS` words of `WORD_BITS` bits (20_memory R66). Safe. -/
  | captureIllFormed
deriving DecidableEq, Repr

/-- Five zero bytes. -/
def FrameBytes.zero : FrameBytes where
  b0 := 0#8
  b1 := 0#8
  b2 := 0#8
  b3 := 0#8
  b4 := 0#8

/-- The cleared Sample value of profile `p` (10_state R39). -/
def Sample.cleared (p : Profile) : Sample where
  profile := p
  status := .error
  tries := 0#8
  bytes := .zero

/-- The state after reset (10_state R50, 70_reset R250; log 14). The values of the model's own fields and of the ports are those of
logs 1 to 4, the unwritten buffer that of log 6, the count of discards that of log 7, the calls those of log 12. -/
def State.reset : State where
  cfg := Config.params
  moves := []
  now := 0#32
  capOk := true
  state := .idle
  result := .cleared Config.profileDefault
  pin := 0#8
  maxTries := Config.maxTriesDefault
  stateTime := 0#32
  lastQueryTime := 0#32
  capDone := false
  capturing := false
  inited := false
  lineDir := .input
  lineOut := .low
  buf := []
  out := { Outputs.quiet with calls := [.captureStop, .gpioInput 0#8] }
  discards := 0

end Sys2Proof.Machine
end

