-- ==== Sys2Proof/Machine/Interpreter.lean ====
section
/-! DEFINITION. The sensor byte interpreter (44_byte_interpreter): pure functions of a Sample value. Temperatures and
humidity are exact integers in tenths, Fahrenheit values in hundredths (R210). -/

namespace Sys2Proof.Machine

/-- 22-type temperature, sign and magnitude (44 R201, R211). -/
def t10Dht22 (b : FrameBytes) : Int :=
  let m : Int := ((b.b2 &&& 0x7F#8).toNat * 256 + b.b3.toNat : Nat)
  if b.b2.getLsbD 7 then -m else m

/-- 22-type humidity (44 R202). -/
def h10Dht22 (b : FrameBytes) : Int := (b.b0.toNat * 256 + b.b1.toNat : Nat)

/-- 11-type temperature (44 R203). -/
def t10Dht11 (b : FrameBytes) : Int := 10 * b.b2.toInt

/-- 11-type humidity (44 R204). -/
def h10Dht11 (b : FrameBytes) : Int := 10 * b.b0.toInt

/-- `T10(S)` (44 R214). -/
def Sample.t10 (s : Sample) : Int :=
  match s.profile with
  | .dht22 => t10Dht22 s.bytes
  | .dht11 => t10Dht11 s.bytes

/-- `H10(S)` (44 R214). -/
def Sample.h10 (s : Sample) : Int :=
  match s.profile with
  | .dht22 => h10Dht22 s.bytes
  | .dht11 => h10Dht11 s.bytes

/-- Tenths of a degree Celsius to hundredths of a degree Fahrenheit (44 R207, R209; PRESUMED by the spec, log 23,
unsafe). -/
def fahrenheit100 (c10 : Int) : Int := 18 * c10 + 3200

/-- `TF100(S)` (44 R207). -/
def Sample.tf100 (s : Sample) : Int := fahrenheit100 s.t10

/-- `DP10(S)` (44 R208). -/
def Sample.dp10 (s : Sample) : Int := Config.dewPointC10 s.t10 s.h10

/-- `DPF100(S)` (44 R209). -/
def Sample.dpf100 (s : Sample) : Int := fahrenheit100 s.dp10

/-- The success predicate (44 R214). -/
def Sample.isSuccess (s : Sample) : Bool := decide (s.status = .success)

/-- The busy predicate (44 R214). -/
def Sample.isBusy (s : Sample) : Bool := decide (s.status = .busy)

/-- The error predicate (44 R214). -/
def Sample.isError (s : Sample) : Bool := decide (s.status = .error)

/-- The too-many-retries predicate (44 R214). -/
def Sample.isTooManyRetries (s : Sample) : Bool := decide (s.status = .tooManyRetries)

end Sys2Proof.Machine
end

