-- ==== Sys2Proof/Machine/Operands.lean ====
section
/-! DEFINITION. The operand and result forms of the commands: the Sample record (30_encoding R87) and the layouts of the
response word (R86). -/

namespace Sys2Proof.Machine

/-- The 51-bit record of a Sample value (30_encoding R87). -/
def Sample.toRecord (s : Sample) : BitVec 51 :=
  s.profile.code ++ s.status.code ++ s.tries ++ s.bytes.b0 ++ s.bytes.b1 ++ s.bytes.b2 ++ s.bytes.b3 ++ s.bytes.b4

/-- The Sample value of a record; all records are legal (30_encoding R87, R97). -/
def Sample.ofRecord (r : BitVec 51) : Sample where
  profile := .ofCode (r.extractLsb' 50 1)
  status := .ofCode (r.extractLsb' 48 2)
  tries := r.extractLsb' 40 8
  bytes :=
    { b0 := r.extractLsb' 32 8
      b1 := r.extractLsb' 24 8
      b2 := r.extractLsb' 16 8
      b3 := r.extractLsb' 8 8
      b4 := r.extractLsb' 0 8 }

/-- The response of a command that returns nothing (30_encoding R86). -/
def noResponse : ResponseWord := 0#64

/-- The response of CANSTART and of the four predicates: bit 0 is the truth value (30_encoding R86). -/
def truthResponse (b : Bool) : ResponseWord := (BitVec.ofBool b).setWidth 64

/-- The response of GETRESULT: the record in bits 50 to 0 (30_encoding R86). -/
def recordResponse (s : Sample) : ResponseWord := s.toRecord.setWidth 64

/-- The response of GETTRIES (30_encoding R86). -/
def countResponse (n : Byte) : ResponseWord := n.setWidth 64

/-- The response of the five derived-value accessors: the value as a signed 32-bit integer in bits 31 to 0, `defined` in bit
32 (30_encoding R86). With `defined = 0` the value is still the function of the stored bytes (40 R121, log 13). -/
def valueResponse (isDefined : Bool) (v : Int) : ResponseWord :=
  0#31 ++ BitVec.ofBool isDefined ++ BitVec.ofInt 32 v

end Sys2Proof.Machine
end

