-- ==== Sys2Proof/Machine/PulseDecoder.lean ====
section
/-! DEFINITION. The pulse decoder and the checksum validator (42_pulse_decoder, 43_checksum): pure functions. -/

namespace Sys2Proof.Machine

/-- Byte `i` of the frame, for `i` 0 to 4 (10_state R21). -/
def FrameBytes.get (f : FrameBytes) (i : Nat) : Byte :=
  match i with
  | 0 => f.b0
  | 1 => f.b1
  | 2 => f.b2
  | 3 => f.b3
  | 4 => f.b4
  | _ => 0#8

/-- `out[i] <- v`, for `i` 0 to 4. -/
def FrameBytes.set (f : FrameBytes) (i : Nat) (v : Byte) : FrameBytes :=
  match i with
  | 0 => { f with b0 := v }
  | 1 => { f with b1 := v }
  | 2 => { f with b2 := v }
  | 3 => { f with b3 := v }
  | 4 => { f with b4 := v }
  | _ => f

/-- Frame bit `i`, 0 to 39: bit `7 - (i mod 8)` of byte `i div 8` (30_encoding R91). -/
def FrameBytes.bit (f : FrameBytes) (i : Nat) : Bool := (f.get (i / 8)).getLsbD (7 - i % 8)

/-- `out[pair div 8] <- out[pair div 8] | (0x80 >> (pair mod 8))` (42 R176). -/
def FrameBytes.setBit (f : FrameBytes) (pair : Nat) : FrameBytes :=
  f.set (pair / 8) (f.get (pair / 8) ||| (0x80#8 >>> (pair % 8)))

/-- The decoder's working registers during one scan (10_state R40); `pair` is unbounded, as 42 R181 advises. -/
structure Scan where
  pair : Int
  out : FrameBytes
  prev : Bool
  run : Nat
deriving DecidableEq, Repr

/-- The start values, with the first sample (42 R172). -/
def Scan.init (first : Bool) : Scan where
  pair := Config.pairStart
  out := .zero
  prev := first
  run := 1

/-- A high-to-low flip closes one pair (42 R174 to R177). -/
def Scan.closePair (thr : Nat) (s : Scan) : Scan :=
  { s with
    out := if 0 ≤ s.pair ∧ s.pair < Config.frameBits ∧ thr < s.run then s.out.setBit s.pair.toNat else s.out
    pair := s.pair + 1 }

/-- One sample after the first (42 R173, R184). -/
def Scan.next (thr : Nat) (s : Scan) (b : Bool) : Scan :=
  if b = s.prev then { s with run := s.run + 1 }
  else { (if s.prev then s.closePair thr else s) with prev := b, run := 1 }

/-- DECODE on a sample stream with threshold `thr`: `(frame_ok, out)` (42 R180). A stream has at least one sample; on the
empty list, which no buffer gives, the answer is that of a stream without a flip (log 20). -/
def decodeStream (thr : Nat) : List Bool → Bool × FrameBytes
  | [] => (false, .zero)
  | first :: rest =>
    let last := rest.foldl (Scan.next thr) (Scan.init first)
    (decide (last.pair = Config.frameBits), last.out)

/-- CHECKSUM: the fifth byte is the 8-bit truncated sum of the first four (43 R190). -/
def checksum (f : FrameBytes) : Bool :=
  decide (f.b4.toNat = (f.b0.toNat + f.b1.toNat + f.b2.toNat + f.b3.toNat) % 256)

/-- `frame_valid`, framing first, then the checksum (43 R191, R192). -/
def decodedValid (d : Bool × FrameBytes) : Bool := d.1 && checksum d.2

end Sys2Proof.Machine
end

