-- ==== Sys2Proof/Machine/Ops.lean ====
section
/-! DEFINITION. The shared operations: the raw capture buffer, the output ports, the calls on the external devices, the
clear, the completion sequence (the block's trap entry), the decode orchestration, and the three transactions that are
not host commands with a meaning: the capture peripheral's step, reset, and a reserved command word. -/

namespace Sys2Proof.Machine

/-! ### The clock -/

/-- `elapsed(t) = (now - t) mod 2^32` (00_scope R11). -/
def elapsed (now t : Time) : Time := now - t

/-! ### The raw capture buffer -/

/-- `MemRead(w, 1)` (00_scope R15, 20_memory R61). -/
def Memory.read : Memory → Nat → Nat
  | [], _ => unwrittenWord
  | (a, v) :: m, w => if w = a then v else Memory.read m w

/-- Put a cell before `m`, unless it is what an unlisted word reads as. -/
def Memory.cons (w v : Nat) (m : Memory) : Memory := if v = unwrittenWord then m else (w, v) :: m

/-- `MemWrite(w, 1, v)`: one word, keeping the canonical form (00_scope R15). -/
def Memory.write : Memory → Nat → Nat → Memory
  | [], w, v => Memory.cons w v []
  | (a, x) :: m, w, v =>
    if w < a then Memory.cons w v ((a, x) :: m)
    else if w = a then Memory.cons w v m
    else (a, x) :: Memory.write m w v

/-- The words of `ws` written from word index `i` upward. -/
def Memory.fillFrom (m : Memory) (i : Nat) : List Nat → Memory
  | [] => m
  | v :: ws => Memory.fillFrom (Memory.write m i v) (i + 1) ws

/-- `buf[0 .. BUF_WORDS-1] <- W` (60_exceptions R226). -/
def Memory.fill (m : Memory) (ws : List Nat) : Memory := m.fillFrom 0 ws

/-- The words of a buffer that was given up for the `n`th time with the contents `m`: free values, each brought into
`WORD_BITS` bits (20_memory R77, 93 U3; log 7). -/
def discardedWords (p : Params) (n : Nat) (m : Memory) : List Nat :=
  (List.range p.bufWords).map (fun w => Config.discardedWord n m w % 2 ^ p.wordBits)

/-- `SampleBit(k)`: most significant bit first in each word (20_memory R62). -/
def sampleBit (p : Params) (m : Memory) (k : Nat) : Bool :=
  (m.read (k / p.wordBits)).testBit (p.wordBits - 1 - k % p.wordBits)

/-- The sample stream of a buffer, samples 0 to `N_SAMPLES - 1` (20_memory R62). -/
def samples (p : Params) (m : Memory) : List Bool := (List.range p.nSamples).map (sampleBit p m)

/-! ### Registers and output ports -/

/-- The register `profile` (10_state R25). -/
def State.profile (s : State) : Profile := s.result.profile

/-- `rsp <- v`. -/
def respond (v : ResponseWord) (s : State) : State := { s with out := { s.out with rsp := some v } }

/-- `emit Completion(S)` (00_scope R16). -/
def emitCompletion (v : Sample) (s : State) : State := { s with out := { s.out with completion := some v } }

/-- A call on an external device, after the calls already made. -/
def callDevice (c : ExternalCall) (s : State) : State := { s with out := { s.out with calls := s.out.calls ++ [c] } }

/-- The clear operation on the Sample register, with the profile that REQ.ACCEPT and reset write (10_state R38). -/
def clearResult (p : Profile) (s : State) : State := { s with result := .cleared p }

/-! ### The external devices -/

/-- `Gpio.output_low(pin)` (60_exceptions R231). -/
def gpioOutputLow (s : State) : State :=
  { callDevice (.gpioOutputLow s.pin) s with lineDir := .output, lineOut := .low }

/-- `Gpio.input(pin)` (60_exceptions R232). -/
def gpioInput (s : State) : State := { callDevice (.gpioInput s.pin) s with lineDir := .input }

/-- The call `Capture.configure_and_start(pin)`; its answer is the port `cap_ok` (60_exceptions R233). -/
def captureStart (s : State) : State := callDevice (.captureStart s.pin) s

/-- The buffer returns to the free phase: its contents become unspecified (20_memory R65, R77). -/
def discardBuffer (s : State) : State :=
  { s with buf := Memory.fill s.buf (discardedWords s.cfg s.discards s.buf), discards := s.discards + 1 }

/-- `Capture.stop()`: the peripheral stops and gives up the buffer (60_exceptions R234, 20_memory R77). -/
def captureStop (s : State) : State := { callDevice .captureStop (discardBuffer s) with capturing := false }

/-! ### The completion sequence -/

/-- `raise Complete(st)`: the outcome is stored, the attempt's end is stamped, the state returns to Idle, and then a copy of
the Sample register is emitted (60_exceptions R238). The return is this Idle: "there is no return instruction", and the
next REQUEST is accepted (R240). -/
def raiseComplete (st : Status) (s : State) : State :=
  emitCompletion { s.result with status := st }
    { s with result := { s.result with status := st }, lastQueryTime := s.now, state := .idle }

/-! ### The decode orchestration -/

/-- DECODE on the buffer with the threshold of the active profile (42 R170, 41 R153). -/
def decodeBuffer (s : State) : Bool × FrameBytes :=
  decodeStream (s.cfg.profile s.profile).oneBitThreshold (samples s.cfg s.buf)

/-- The first part of the three transitions taken with `cap_done = 1`: the five bytes are stored, valid or not, and the
peripheral is stopped (41 R153). -/
def decodeOrchestration (s : State) : State :=
  captureStop { s with result := { s.result with bytes := (decodeBuffer s).2 } }

/-- The sequence that leaves SendStart, up to the answer of the capture peripheral (41 R145). The counter has 8 bits and
does not reach its end in a reachable state (10_state R22, log 19). -/
def leaveSendStart (s : State) : State :=
  let released := gpioInput s
  captureStart
    { released with capDone := false, result := { released.result with tries := released.result.tries + 1#8 } }

/-! ### Transactions -/

/-- A command is taken from the moves: its clock value and the peripheral's answer are sampled once and the output ports of
the transaction before are cleared (00_scope R11). -/
def beginCommand (now : Time) (capOk : Bool) (rest : List Move) (s : State) : State :=
  { s with moves := rest, now := now, capOk := capOk, out := .quiet }

/-- The hardware's treatment of a reserved word: "no state changes, `rsp = 0`, no completion event, and the `cmd_err` output
is raised" (30_encoding R96, 40 R127). DESIGN CHOICE (log 8): the decoder refuses the word, the block goes on. -/
def reservedCommand (s : State) : Host.Outcome State Fault Refusal :=
  .next { respond 0#64 s with out := { (respond 0#64 s).out with cmdErr := true } }

/-- The capture peripheral's step is enabled (60_exceptions R226). -/
def State.captureEnabled (s : State) : Bool := s.capturing && !s.capDone && s.inited

/-- The capture peripheral's step, fill and notification in one (60_exceptions R226). A move the spec has no step for is
refused (log 11). -/
def captureComplete (words : List Nat) (s : State) : Host.Outcome State Fault Refusal :=
  if s.captureEnabled then
    if captureFits s.cfg words then
      .next { s with buf := Memory.fill s.buf words, capDone := true, out := .quiet }
    else .refused .captureIllFormed
  else .refused .captureNotEnabled

/-- Reset as a transaction (70_reset R250, R252): every register of 10_state R50 takes its reset value, `Capture.stop()` and
`Gpio.input` of the pin that was in use are called, nothing is emitted. The parameters, the moves to come and the clock
are not the block's to reset (log 21); the contents of the buffer become unspecified (log 7). -/
def resetBlock (s : State) : State :=
  { State.reset with
    cfg := s.cfg
    moves := s.moves
    now := s.now
    capOk := s.capOk
    buf := (discardBuffer s).buf
    discards := (discardBuffer s).discards
    out := { Outputs.quiet with calls := [.captureStop, .gpioInput s.pin] } }

end Sys2Proof.Machine
end

