-- ==== Sys2Proof/Machine/Requests.lean ====
section
/-! DEFINITION. The two operations a REQUEST selects (41 R156, R157; 30_encoding R102). -/

namespace Sys2Proof.Machine

/-- The Busy Sample value of profile `p` (10_state R39). -/
def Sample.busyOf (p : Profile) : Sample := { Sample.cleared p with status := .busy }

/-- REQ.ACCEPT (41 R156). -/
def reqAccept (pin : Byte) (profile : Profile) (s : State) : State :=
  { clearResult profile s with pin := pin, state := .start }

/-- REQ.BUSY (41 R157). -/
def reqBusy (profile : Profile) (s : State) : State := emitCompletion (.busyOf profile) s

/-- Meaning of REQ.ACCEPT (41 R156). -/
def execReqAccept (pin : Byte) (profile : Profile) (s : State) : Host.Outcome State Fault Refusal :=
  .next (reqAccept pin profile s)

/-- Meaning of REQ.BUSY (41 R157). -/
def execReqBusy (profile : Profile) (s : State) : Host.Outcome State Fault Refusal := .next (reqBusy profile s)

end Sys2Proof.Machine
end

