-- ==== Sys2Proof/Machine/Flags.lean ====
section
/-! DEFINITION. The conditions that select a transition (41 R155), the selector they form (30_encoding R94), and a state in
which a given selector is the one computed. -/

namespace Sys2Proof.Machine

/-- `gate_open` (41 R155). -/
def gateOpen (s : State) : Bool :=
  decide ((s.cfg.profile s.profile).minPeriodMs ≤ elapsed s.now s.lastQueryTime)

/-- `pulse_done` (41 R155). -/
def pulseDone (s : State) : Bool := decide (Config.startPulseMs ≤ elapsed s.now s.stateTime)

/-- `wait_expired` (41 R155). -/
def waitExpired (s : State) : Bool := decide (s.cfg.sampleWaitMs ≤ elapsed s.now s.stateTime)

/-- `frame_valid`: DECODE gives `frame_ok` and CHECKSUM passes (41 R155, 43 R191). -/
def frameValid (s : State) : Bool := decodedValid (decodeBuffer s)

/-- `budget_spent` (41 R155). -/
def budgetSpent (s : State) : Bool := decide (s.maxTries ≤ s.result.tries)

/-- `SEL` from the state, `now` and the peripheral's answer (30_encoding R94, 40 R113). -/
def selector (s : State) : Sel where
  st := s.state
  gateOpen := gateOpen s
  pulseDone := pulseDone s
  capOk := s.capOk
  capDone := s.capDone
  waitExpired := waitExpired s
  frameValid := frameValid s
  budgetSpent := budgetSpent s

/-- 42 falling flips with high runs of one sample, in one word of 84 bits. -/
def fortyPairsWord : Nat := 2 * ((4 ^ 42 - 1) / 3)

/-- `s` with `state`, the timestamps, the counters, the flag, the buffer and the parameters they are compared with set so
that a SERVICE at `s.now` computes exactly the selector `q`; used only to present a selector word of the opcode table to
the step (log 10). -/
def presentSelector (q : Sel) (s : State) : State :=
  let thr : Nat := if q.frameValid then 84 else 0
  let consts : ProfileParams :=
    { minPeriodMs := if q.gateOpen then 0#32 else 1#32, oneBitThreshold := thr, name := "" }
  { s with
    state := q.st
    lastQueryTime := s.now
    stateTime := if q.pulseDone then s.now - 18#32 else s.now
    capDone := q.capDone
    result := { s.result with tries := 1#8 }
    maxTries := if q.budgetSpent then 1#8 else 2#8
    buf := [(0, fortyPairsWord)]
    cfg :=
      { s.cfg with
        wordBits := 84
        bufWords := 1
        sampleWaitMs := if q.waitExpired then 0#32 else 19#32
        dht22 := consts
        dht11 := consts } }

end Sys2Proof.Machine
end

