-- ==== Sys2Proof/Machine/Transitions.lean ====
section
/-! DEFINITION. The eleven transitions of SERVICE (41_acquisition_fsm R141 to R152). Each meaning is the pseudocode of its
rule; which one a SERVICE takes is decided by the selector, not here (log 9). -/

namespace Sys2Proof.Machine

/-- SVC.IDLE (41 R141). -/
def svcIdle (s : State) : State := s

/-- START.WAIT (41 R142). -/
def startWait (s : State) : State := s

/-- START.GO (41 R143). -/
def startGo (s : State) : State :=
  { gpioOutputLow s with stateTime := s.now, state := .sendStart }

/-- SENDSTART.WAIT (41 R144). -/
def sendStartWait (s : State) : State := s

/-- SENDSTART.GO, the `ok` branch of the sequence (41 R145). -/
def sendStartGo (s : State) : State :=
  { leaveSendStart s with capturing := true, stateTime := s.now, state := .sampling }

/-- SENDSTART.FAIL, the `else` branch of the sequence (41 R145, R146). -/
def sendStartFail (s : State) : State := raiseComplete .error (captureStop (leaveSendStart s))

/-- SAMPLING.WAIT (41 R148). -/
def samplingWait (s : State) : State := s

/-- SAMPLING.TIMEOUT (41 R149). -/
def samplingTimeout (s : State) : State := raiseComplete .error (captureStop s)

/-- SAMPLING.RETRY (41 R150). -/
def samplingRetry (s : State) : State :=
  { decodeOrchestration s with lastQueryTime := s.now, state := .start }

/-- SAMPLING.EXHAUSTED (41 R151). -/
def samplingExhausted (s : State) : State := raiseComplete .tooManyRetries (decodeOrchestration s)

/-- SAMPLING.SUCCESS (41 R152). -/
def samplingSuccess (s : State) : State := raiseComplete .success (decodeOrchestration s)

/-- The state a transition leaves. -/
def takeTransition (t : Transition) (s : State) : State :=
  match t with
  | .svcIdle => svcIdle s
  | .startWait => startWait s
  | .startGo => startGo s
  | .sendStartWait => sendStartWait s
  | .sendStartGo => sendStartGo s
  | .sendStartFail => sendStartFail s
  | .samplingWait => samplingWait s
  | .samplingTimeout => samplingTimeout s
  | .samplingRetry => samplingRetry s
  | .samplingExhausted => samplingExhausted s
  | .samplingSuccess => samplingSuccess s

/-- Meaning of SVC.IDLE (41 R141). -/
def execSvcIdle (s : State) : Host.Outcome State Fault Refusal := .next (svcIdle s)

/-- Meaning of START.WAIT (41 R142). -/
def execStartWait (s : State) : Host.Outcome State Fault Refusal := .next (startWait s)

/-- Meaning of START.GO (41 R143). -/
def execStartGo (s : State) : Host.Outcome State Fault Refusal := .next (startGo s)

/-- Meaning of SENDSTART.WAIT (41 R144). -/
def execSendStartWait (s : State) : Host.Outcome State Fault Refusal := .next (sendStartWait s)

/-- Meaning of SENDSTART.GO (41 R145). -/
def execSendStartGo (s : State) : Host.Outcome State Fault Refusal := .next (sendStartGo s)

/-- Meaning of SENDSTART.FAIL (41 R146). -/
def execSendStartFail (s : State) : Host.Outcome State Fault Refusal := .next (sendStartFail s)

/-- Meaning of SAMPLING.WAIT (41 R148). -/
def execSamplingWait (s : State) : Host.Outcome State Fault Refusal := .next (samplingWait s)

/-- Meaning of SAMPLING.TIMEOUT (41 R149). -/
def execSamplingTimeout (s : State) : Host.Outcome State Fault Refusal := .next (samplingTimeout s)

/-- Meaning of SAMPLING.RETRY (41 R150). -/
def execSamplingRetry (s : State) : Host.Outcome State Fault Refusal := .next (samplingRetry s)

/-- Meaning of SAMPLING.EXHAUSTED (41 R151). -/
def execSamplingExhausted (s : State) : Host.Outcome State Fault Refusal := .next (samplingExhausted s)

/-- Meaning of SAMPLING.SUCCESS (41 R152). -/
def execSamplingSuccess (s : State) : Host.Outcome State Fault Refusal := .next (samplingSuccess s)

end Sys2Proof.Machine
end

