-- ==== Sys2Proof/Machine/Lifecycle.lean ====
section
/-! DEFINITION. The lifecycle commands INIT, REQUEST, SERVICE and SETMAXTRIES (40_host_commands R111 to R114). -/

namespace Sys2Proof.Machine

/-- INIT: `inited <- 1` and nothing else (40 R111). -/
def execInit (s : State) : Host.Outcome State Fault Refusal :=
  .next (respond noResponse { s with inited := true })

/-- REQUEST: REQ.ACCEPT when Idle, REQ.BUSY otherwise (40 R112). -/
def execRequest (pin : Byte) (profile : Profile) (s : State) : Host.Outcome State Fault Refusal :=
  .next (respond noResponse (if s.state = .idle then reqAccept pin profile s else reqBusy profile s))

/-- SERVICE: exactly one transition, the one whose row matches the selector (40 R113, 41 R154). -/
def execService (s : State) : Host.Outcome State Fault Refusal :=
  .next (respond noResponse (takeTransition (selector s).transition s))

/-- SETMAXTRIES: accepted in every state (40 R114). -/
def execSetMaxTries (n : Byte) (s : State) : Host.Outcome State Fault Refusal :=
  .next (respond noResponse { s with maxTries := n })

end Sys2Proof.Machine
end

