-- ==== Sys2Proof/Machine/Queries.lean ====
section
/-! DEFINITION. The queries CANSTART and GETRESULT and the ten accessors of the stored Sample register
(40_host_commands R115 to R126). None writes a register. -/

namespace Sys2Proof.Machine

/-- CANSTART looks at `state` only (40 R115). -/
def execCanStart (s : State) : Host.Outcome State Fault Refusal :=
  .next (respond (truthResponse (decide (s.state = .idle))) s)

/-- GETRESULT (40 R116). -/
def execGetResult (s : State) : Host.Outcome State Fault Refusal :=
  .next (respond (recordResponse s.result) s)

/-- ISSUCCESS (40 R117). -/
def execIsSuccess (s : State) : Host.Outcome State Fault Refusal :=
  .next (respond (truthResponse s.result.isSuccess) s)

/-- ISBUSY (40 R118). -/
def execIsBusy (s : State) : Host.Outcome State Fault Refusal :=
  .next (respond (truthResponse s.result.isBusy) s)

/-- ISERROR (40 R119). -/
def execIsError (s : State) : Host.Outcome State Fault Refusal :=
  .next (respond (truthResponse s.result.isError) s)

/-- ISTOOMANYRETRIES (40 R120). -/
def execIsTooManyRetries (s : State) : Host.Outcome State Fault Refusal :=
  .next (respond (truthResponse s.result.isTooManyRetries) s)

/-- GETTEMPC (40 R121). -/
def execGetTempC (s : State) : Host.Outcome State Fault Refusal :=
  .next (respond (valueResponse s.result.isSuccess s.result.t10) s)

/-- GETTEMPF (40 R122). -/
def execGetTempF (s : State) : Host.Outcome State Fault Refusal :=
  .next (respond (valueResponse s.result.isSuccess s.result.tf100) s)

/-- GETHUMIDITY (40 R123). -/
def execGetHumidity (s : State) : Host.Outcome State Fault Refusal :=
  .next (respond (valueResponse s.result.isSuccess s.result.h10) s)

/-- GETDEWPOINTC (40 R124). -/
def execGetDewPointC (s : State) : Host.Outcome State Fault Refusal :=
  .next (respond (valueResponse s.result.isSuccess s.result.dp10) s)

/-- GETDEWPOINTF (40 R125). -/
def execGetDewPointF (s : State) : Host.Outcome State Fault Refusal :=
  .next (respond (valueResponse s.result.isSuccess s.result.dpf100) s)

/-- GETTRIES (40 R126). -/
def execGetTries (s : State) : Host.Outcome State Fault Refusal :=
  .next (respond (countResponse s.result.tries) s)

end Sys2Proof.Machine
end

