-- ==== Sys2Proof/Machine/Dispatch.lean ====
section
/-! DEFINITION. The dispatch of an operation to its meaning, one arm per row of the opcode table. -/

namespace Sys2Proof.Machine

def exec (i : Instr) (s : State) : Host.Outcome State Fault Refusal :=
  match i with
  -- host commands (40_host_commands)
  | .init => Sys2Proof.Machine.execInit s
  | .request pin profile => Sys2Proof.Machine.execRequest pin profile s
  | .service => Sys2Proof.Machine.execService s
  | .setMaxTries n => Sys2Proof.Machine.execSetMaxTries n s
  | .canStart => Sys2Proof.Machine.execCanStart s
  | .getResult => Sys2Proof.Machine.execGetResult s
  | .isSuccess => Sys2Proof.Machine.execIsSuccess s
  | .isBusy => Sys2Proof.Machine.execIsBusy s
  | .isError => Sys2Proof.Machine.execIsError s
  | .isTooManyRetries => Sys2Proof.Machine.execIsTooManyRetries s
  | .getTempC => Sys2Proof.Machine.execGetTempC s
  | .getTempF => Sys2Proof.Machine.execGetTempF s
  | .getHumidity => Sys2Proof.Machine.execGetHumidity s
  | .getDewPointC => Sys2Proof.Machine.execGetDewPointC s
  | .getDewPointF => Sys2Proof.Machine.execGetDewPointF s
  | .getTries => Sys2Proof.Machine.execGetTries s
  -- transitions selected by SERVICE (41_acquisition_fsm)
  | .svcIdle => Sys2Proof.Machine.execSvcIdle s
  | .startWait => Sys2Proof.Machine.execStartWait s
  | .startGo => Sys2Proof.Machine.execStartGo s
  | .sendStartWait => Sys2Proof.Machine.execSendStartWait s
  | .sendStartGo => Sys2Proof.Machine.execSendStartGo s
  | .sendStartFail => Sys2Proof.Machine.execSendStartFail s
  | .samplingWait => Sys2Proof.Machine.execSamplingWait s
  | .samplingTimeout => Sys2Proof.Machine.execSamplingTimeout s
  | .samplingRetry => Sys2Proof.Machine.execSamplingRetry s
  | .samplingExhausted => Sys2Proof.Machine.execSamplingExhausted s
  | .samplingSuccess => Sys2Proof.Machine.execSamplingSuccess s
  -- operations selected by REQUEST (41_acquisition_fsm)
  | .reqAccept pin profile => Sys2Proof.Machine.execReqAccept pin profile s
  | .reqBusy profile => Sys2Proof.Machine.execReqBusy profile s

end Sys2Proof.Machine
end

