-- ==== Sys2Proof/Machine/Step.lean ====
section
/-! DEFINITION. One step of the block: the oldest of the moves still to come is taken, as one atomic transaction
(00_scope R4). With no move to come nothing changes (70_reset R271). -/

namespace Sys2Proof.Machine

/-- A command word: decoded and run, or treated as a reserved word (30_encoding R96). -/
def runCommand (w : CommandWord) (s : State) : Host.Outcome State Fault Refusal :=
  match decodeCommand w with
  | .ok i => exec i s
  | .error _ => reservedCommand s

/-- One step. -/
def step (s : State) : Host.Outcome State Fault Refusal :=
  match s.moves with
  | [] => .next s
  | .command w now capOk :: rest => runCommand w (beginCommand now capOk rest s)
  | .capture words :: rest => captureComplete words { s with moves := rest }
  | .reset :: rest => .next (resetBlock { s with moves := rest })

/-- `s` with a command as the very next move, at the clock value last sampled. -/
def State.withCommand (s : State) (w : CommandWord) (capOk : Bool) : State :=
  { s with moves := .command w s.now capOk :: s.moves }

/-- `s` with an encoded operation as the very next thing the step runs (log 10). A command word becomes the next move. A
selector word is a SERVICE in a state that computes that selector. A request selector is a REQUEST of pin and profile in
a state that is Idle or not. -/
def State.withOpWord (s : State) : OpWord → State
  | .cmd w => s.withCommand w true
  | .sel w => (presentSelector (Sel.ofWord w) s).withCommand 0x3000#16 (Sel.ofWord w).capOk
  | .rsel idle profile pin =>
    State.withCommand
      { s with state := if idle = 1#1 then .idle else if s.state = .idle then .start else s.state }
      (0x2#4 ++ 0#3 ++ profile ++ pin) true

/-- `s` with the instruction whose bits the opcode table numbers `w` as the next thing the step runs. -/
def State.withFetchWord (s : State) (nbits w : Nat) : State :=
  match tableWord nbits w with
  | none => s.withCommand 0#16 true
  | some o => s.withOpWord o

end Sys2Proof.Machine
end

