-- ==== Sys2Proof/Safety.lean ====
section
/-! DEFINITION. The words claims are written in: what a command does to the outputs, the invariants of reachable states
(10_state R22, R23, R33, R42), the retry budget and the termination measure (41 R158, 70_reset R262), and independent
descriptions of what the decoder must find in a sample stream (42 R179, R183). -/

namespace Sys2Proof.Machine

/-! ### Moves and conditions -/

/-- An acquisition is in flight (10_state R24). -/
def State.inFlight (s : State) : Prop := s.state ≠ .idle

/-- A quiescent state (70_reset R271). -/
def State.quiescent (s : State) : Prop := s.state = .idle

/-- The next move is the command `i`, presented at `now` with the peripheral's answer `capOk`, and `rest` follows. -/
def State.nextIs (s : State) (i : Instr) (now : Time) (capOk : Bool) (rest : List Move) : Prop :=
  ∃ w, s.moves = .command w now capOk :: rest ∧ decodeCommand w = .ok i

/-- The next move is some command word, reserved or not. -/
def State.nextIsCommand (s : State) : Prop := ∃ w now capOk rest, s.moves = .command w now capOk :: rest

/-- The next move is a SETMAXTRIES. -/
def State.nextSetsMaxTries (s : State) : Prop := ∃ n now capOk rest, s.nextIs (.setMaxTries n) now capOk rest

/-- The next move is a reset. -/
def State.nextIsReset (s : State) : Prop := ∃ rest, s.moves = .reset :: rest

/-- `s` after its registers changed as a command asked and the command answered `v`. -/
def State.answering (s : State) (v : ResponseWord) : State := { s with out := { s.out with rsp := some v } }

/-- `s` with further calls on the external devices. -/
def State.calling (s : State) (cs : List ExternalCall) : State := { s with out := { s.out with calls := s.out.calls ++ cs } }

/-- `s` with other contents of the buffer and another count of discards, of which statements say nothing after
`Capture.stop` (20_memory R77; log 7). -/
def State.discarding (s : State) (m : Memory) (n : Nat) : State := { s with buf := m, discards := n }

/-- The wait of the present state is over at `now` (60_exceptions R244): the gate is open in Start, the pulse is done in
SendStart, the capture is complete or the bounded wait has run out in Sampling. -/
def State.waitOver (s : State) (now : Time) : Prop :=
  match s.state with
  | .idle => False
  | .start => (s.cfg.profile s.profile).minPeriodMs ≤ now - s.lastQueryTime
  | .sendStart => 18#32 ≤ now - s.stateTime
  | .sampling => s.capDone = true ∨ s.cfg.sampleWaitMs ≤ now - s.stateTime

/-! ### Invariants -/

/-- The invariants of reachable states: 10_state R42 (a) to (g), with R22, R23, R33, the constraints of 00_scope R10 and the
buffer's form. -/
structure Inv (s : State) : Prop where
  paramsOk : s.cfg.wellFormed = true
  bufCanonical : Memory.wf s.buf
  bufFits : Memory.fits s.cfg s.buf
  /-- R42 (a) -/
  capturingInSampling : s.capturing = true → s.state = .sampling
  /-- R42 (b) -/
  samplingCaptures : s.state = .sampling → s.capturing = true
  /-- R42 (b) -/
  samplingTried : s.state = .sampling → 1 ≤ s.result.tries.toNat
  /-- R42 (b), second half: in Idle either no completion has written the status since reset, or an attempt was made -/
  idleTried : s.state = .idle → 1 ≤ s.result.tries.toNat ∨ s.result = .cleared .dht22
  /-- R42 (c) -/
  inFlightError : s.state ≠ .idle → s.result.status = .error
  /-- R42 (d) -/
  lineDriven : s.lineDir = .output ↔ s.state = .sendStart
  /-- R42 (e) -/
  doneInited : s.capDone = true → s.inited = true
  /-- R42 (f) -/
  successValid : s.result.status = .success → checksum s.result.bytes = true ∧ 1 ≤ s.result.tries.toNat
  /-- R42 (g) -/
  exhaustedTried : s.result.status = .tooManyRetries → 1 ≤ s.result.tries.toNat
  /-- R23 -/
  neverBusy : s.result.status ≠ .busy
  /-- R33 -/
  lineNeverHigh : s.lineOut = .low
  /-- R22 -/
  triesBelowEnd : s.state = .start ∨ s.state = .sendStart → s.result.tries.toNat ≤ 254

/-- The number of attempts an acquisition may make (41 R158). -/
def State.attemptsAllowed (s : State) : Nat := max 1 s.maxTries.toNat

/-- The attempts made stay within the allowance, and one more is left before each start pulse ends (41 R158). -/
structure WithinBudget (s : State) : Prop where
  made : s.state ≠ .idle → s.result.tries.toNat ≤ s.attemptsAllowed
  left : s.state = .start ∨ s.state = .sendStart → s.result.tries.toNat < s.attemptsAllowed

/-- How many waits an acquisition in flight has at most before it (70_reset R262): three for each attempt left. -/
def State.waitsLeft (s : State) : Nat :=
  match s.state with
  | .idle => 0
  | .start => 3 * (s.attemptsAllowed - s.result.tries.toNat)
  | .sendStart => 3 * (s.attemptsAllowed - s.result.tries.toNat) - 1
  | .sampling => 3 * (s.attemptsAllowed - s.result.tries.toNat) + 1

/-! ### What a sample stream holds -/

/-- The number of high-to-low flips of a stream (42 R174, R179). -/
def fallingFlips : List Bool → Nat
  | a :: b :: rest => (if a && !b then 1 else 0) + fallingFlips (b :: rest)
  | _ => 0

/-- The lengths of the closed high runs of a stream, in order: its runs, without the one still open at the end, those of
high level (42 R173, R174, R178). -/
def closedHighRuns (stream : List Bool) : List Nat :=
  ((stream.splitBy (· == ·)).dropLast.filter (fun run => run.head? == some true)).map List.length

/-- One pair of the line: a low run, then a high run, neither empty (30_encoding R92). -/
def linePair (p : Nat × Nat) : List Bool := List.replicate (p.1 + 1) false ++ List.replicate (p.2 + 1) true

/-- The stream of 42 R183: an optional low run, a high, a low and a high run (the preamble), the data pairs, a low run, and
high samples to the end. The numbers are run lengths, less one where the run may not be empty. -/
def sensorStream (lead high0 low0 high1 : Nat) (pairs : List (Nat × Nat)) (tailLow tailHigh : Nat) : List Bool :=
  List.replicate lead false ++ List.replicate (high0 + 1) true ++ linePair (low0, high1) ++
    pairs.flatMap linePair ++ List.replicate (tailLow + 1) false ++ List.replicate tailHigh true

end Sys2Proof.Machine
end

