-- ==== Sys2Proof/Certificates/Slice0/Obligations.lean ====
section
/-! DEFINITION. The statements about the model, for the provers. Each docstring names the rule of spec/ it formalises. -/

open Sys2Proof Sys2Proof.Machine

/-! ### Reset and the step -/

/-- 10_state R50: the reset value of every piece of state the spec gives one. -/
def Obligations.ResetStateHoldsTheSpecifiedValues : Prop :=
  State.reset.state = .idle ∧ State.reset.maxTries = 4#8 ∧ State.reset.result.profile = .dht22 ∧
  State.reset.result.bytes = ⟨0#8, 0#8, 0#8, 0#8, 0#8⟩ ∧ State.reset.result.tries = 0#8 ∧
  State.reset.result.status = .error ∧ State.reset.pin = 0#8 ∧ State.reset.stateTime = 0#32 ∧
  State.reset.lastQueryTime = 0#32 ∧ State.reset.capDone = false ∧ State.reset.capturing = false ∧
  State.reset.inited = false ∧ State.reset.lineDir = .input ∧ State.reset.lineOut = .low ∧
  State.reset.out.completion = none

/-- 70_reset R250, R252: the reset input, in any state, also in flight. -/
def Obligations.ResetInputRestoresEveryRegister : Prop :=
  ∀ (s : State) (rest : List Move), s.moves = .reset :: rest →
    ∃ t, step s = .next t ∧ t.moves = rest ∧
      t.state = .idle ∧ t.maxTries = 4#8 ∧ t.result = ⟨.dht22, .error, 0#8, ⟨0#8, 0#8, 0#8, 0#8, 0#8⟩⟩ ∧
      t.pin = 0#8 ∧ t.stateTime = 0#32 ∧ t.lastQueryTime = 0#32 ∧ t.capDone = false ∧ t.capturing = false ∧
      t.inited = false ∧ t.lineDir = .input ∧ t.lineOut = .low ∧
      t.out.completion = none ∧ (∃ pin, t.out.calls = [.captureStop, .gpioInput pin]) ∧
      t.now = s.now ∧ t.cfg = s.cfg

/-- The invariant holds after reset (10_state R42, R50; the buffer lists nothing by the model's choice, log 6). -/
def Obligations.ResetStateMeetsTheInvariant : Prop := Inv State.reset

/-- A step on a command word runs the operation the word decodes to, with the clock value and the peripheral's answer
sampled once and the outputs of the transaction before cleared (00_scope R4, R11; the moves are the model's, log 1). -/
def Obligations.StepRunsTheDecodedCommand : Prop :=
  ∀ (s : State) (w : CommandWord) (now : Time) (capOk : Bool) (rest : List Move) (i : Instr),
    s.moves = .command w now capOk :: rest → decodeCommand w = .ok i →
      step s = exec i { s with moves := rest, now := now, capOk := capOk, out := ⟨none, false, none, []⟩ }

/-- 30_encoding R96, 40 R127: a reserved word changes no register, answers 0, raises `cmd_err`, emits no event and calls no
device. That the block goes on where R96 advises a model to refuse is the model's choice (log 8). -/
def Obligations.ReservedWordRaisesOnlyTheErrorOutput : Prop :=
  ∀ (s : State) (w : CommandWord) (now : Time) (capOk : Bool) (rest : List Move) (e : DecodeError),
    s.moves = .command w now capOk :: rest → decodeCommand w = .error e →
      step s = .next { s with moves := rest, now := now, capOk := capOk, out := ⟨some 0#64, true, none, []⟩ }

/-- 40 R110, R127, 30_encoding R96, 60 R237: every command word has a next state in every state. That a reserved word has
one, with the effect R96 gives the hardware, where R96 and R242 advise a model to refuse it, is the model's choice (log 8). -/
def Obligations.EveryCommandWordCompletes : Prop :=
  ∀ s : State, s.nextIsCommand → ∃ t, step s = .next t

/-- 00_scope R10, 10_state R41: the parameters are fixed for the life of the block. -/
def Obligations.ParametersNeverChange : Prop :=
  ∀ s t : State, step s = .next t → t.cfg = s.cfg

/-! ### Encodings -/

/-- Words of 95_test_vectors section 7, each with the operation the spec reads from it: every command and every accessor,
every row of SEL and of RSEL, and reserved words. The operand fields beside an RSEL bit are the model's (log 10). -/
def Obligations.SpecWordsDecodeAsTheSpecSays : Prop :=
  ∀ q ∈ ([
    (.cmd 0x1000#16, .ok .init), (.cmd 0x2107#16, .ok (.request 7#8 .dht11)),
    (.cmd 0x20FF#16, .ok (.request 255#8 .dht22)), (.cmd 0x3000#16, .ok .service),
    (.cmd 0x40FF#16, .ok (.setMaxTries 255#8)), (.cmd 0x5000#16, .ok .canStart), (.cmd 0x6000#16, .ok .getResult),
    (.cmd 0x7000#16, .ok .isSuccess), (.cmd 0x7001#16, .ok .isBusy), (.cmd 0x7002#16, .ok .isError),
    (.cmd 0x7003#16, .ok .isTooManyRetries), (.cmd 0x7004#16, .ok .getTempC), (.cmd 0x7005#16, .ok .getTempF),
    (.cmd 0x7006#16, .ok .getHumidity), (.cmd 0x7007#16, .ok .getDewPointC), (.cmd 0x7008#16, .ok .getDewPointF),
    (.cmd 0x7009#16, .ok .getTries), (.sel 0x07F#9, .ok .svcIdle), (.sel 0x0BF#9, .ok .startWait),
    (.sel 0x0FF#9, .ok .startGo), (.sel 0x15F#9, .ok .sendStartWait), (.sel 0x17F#9, .ok .sendStartGo),
    (.sel 0x16F#9, .ok .sendStartFail), (.sel 0x1F3#9, .ok .samplingWait), (.sel 0x1F7#9, .ok .samplingTimeout),
    (.sel 0x18C#9, .ok .samplingRetry), (.sel 0x1FD#9, .ok .samplingExhausted), (.sel 0x18E#9, .ok .samplingSuccess),
    (.rsel 1#1 1#1 7#8, .ok (.reqAccept 7#8 .dht11)), (.rsel 0#1 1#1 0#8, .ok (.reqBusy .dht11)),
    (.cmd 0x2207#16, .error (.reservedOperandBits 0x2#4)), (.cmd 0x700A#16, .error (.reservedAccessor 0xA#4)),
    (.cmd 0x0000#16, .error (.reservedOp 0x0#4))] : List (OpWord × Except DecodeError Instr)),
    decode q.1 = q.2

/-- 30_encoding R82 to R85, R95, R102: decoding the encoding of any operation gives it back, with every operand. -/
def Obligations.DecodeOfEncodeIsTheInstruction : Prop :=
  ∀ i : Instr, decode (encode i) = .ok i

/-- 30_encoding R81 to R85, R97: a command word that decodes is the encoding of what it decodes to, so no two words mean
the same command. -/
def Obligations.CommandWordIsTheEncodingOfItsMeaning : Prop :=
  ∀ (w : CommandWord) (i : Instr), decodeCommand w = .ok i → encode i = .cmd w

/-- 30_encoding R96: the reserved words are those that match no row of the table. -/
def Obligations.ReservedWordsAreThoseOfNoRow : Prop :=
  ∀ w : CommandWord, (∃ e, decodeCommand w = .error e) ↔ ∀ i : Instr, (OpWord.cmd w).fits i.row = false

/-- 30_encoding R95, R89: the state codes of the selector; the selector rows are mutually exclusive and cover all 512
words, and the decoder reads each by its row. -/
def Obligations.SelectorRowsPartitionAllWords : Prop :=
  (AcqState.idle.code = 0b00#2 ∧ AcqState.start.code = 0b01#2 ∧ AcqState.sendStart.code = 0b10#2 ∧
    AcqState.sampling.code = 0b11#2) ∧
  ∀ (w : BitVec 9) (t : Transition), (OpWord.sel w).fits t.toInstr.row = true ↔ decodeSelector w = t.toInstr

/-- 30_encoding R87, R97: the Sample record and the Sample value determine each other; every record is legal. -/
def Obligations.SampleRecordRoundTrip : Prop :=
  (∀ s : Sample, Sample.ofRecord s.toRecord = s) ∧ ∀ r : BitVec 51, (Sample.ofRecord r).toRecord = r

/-! ### Lifecycle commands -/

/-- 40 R111: INIT. -/
def Obligations.InitSetsInitedAndNothingElse : Prop :=
  decodeCommand 0x1000#16 = .ok .init ∧
  ∀ s : State, exec .init s = .next (State.answering { s with inited := true } 0#64)

/-- 41 R156, 40 R112: a REQUEST in Idle is accepted; REQ.ACCEPT itself. That REQ.ACCEPT has this effect in every state,
also where its row is not selected, is the model's choice (log 9). -/
def Obligations.RequestInIdleIsAccepted : Prop :=
  ∀ (s : State) (pin : Byte) (p : Profile),
    let accepted : State :=
      { s with pin := pin, result := ⟨p, .error, 0#8, ⟨0#8, 0#8, 0#8, 0#8, 0#8⟩⟩, state := .start }
    (Instr.reqAccept pin p).row = .rsel 1#1 1#1 ∧ exec (.reqAccept pin p) s = .next accepted ∧
    (s.state = .idle → exec (.request pin p) s = .next (accepted.answering 0#64))

/-- 41 R157, 60 R221: a REQUEST in flight is answered Busy in the same transaction and changes no register; REQ.BUSY
itself. That REQ.BUSY has this effect in every state, also where its row is not selected, is the model's choice (log 9).
-/
def Obligations.RequestInFlightIsAnsweredBusy : Prop :=
  ∀ (s : State) (pin : Byte) (p : Profile),
    let rejected : State :=
      { s with out := { s.out with completion := some ⟨p, .busy, 0#8, ⟨0#8, 0#8, 0#8, 0#8, 0#8⟩⟩ } }
    (Instr.reqBusy p).row = .rsel 0#1 1#1 ∧ exec (.reqBusy p) s = .next rejected ∧
    (s.state ≠ .idle → exec (.request pin p) s = .next (rejected.answering 0#64))

/-- 40 R114: SETMAXTRIES, in every state. -/
def Obligations.SetMaxTriesWritesTheSetting : Prop :=
  ∀ (s : State) (n : Byte), encode (.setMaxTries n) = .cmd (0x4000#16 ||| n.setWidth 16) ∧
    exec (.setMaxTries n) s = .next (State.answering { s with maxTries := n } 0#64)

/-- 41 R154: a SERVICE takes exactly one transition, the one whose row of 30_encoding R95 matches the selector, and
answers 0. -/
def Obligations.ServiceTakesTheOneMatchingTransition : Prop :=
  ∀ (s : State) (t : Transition), (OpWord.sel (selector s).toWord).fits t.toInstr.row = true →
    ∃ u, exec t.toInstr s = .next u ∧ exec .service s = .next (u.answering 0#64)

/-! ### Queries and accessors -/

/-- 40 R115: CANSTART looks at `state` only. -/
def Obligations.CanStartAnswersIdle : Prop :=
  decodeCommand 0x5000#16 = .ok .canStart ∧
  ∀ s : State, exec .canStart s = .next (s.answering (if s.state = .idle then 1#64 else 0#64))

/-- 40 R116, 30_encoding R86, R87, with the codes of R88 and R90: GETRESULT answers the record, field by field. -/
def Obligations.GetResultAnswersTheRecord : Prop :=
  (Status.success.code = 0b00#2 ∧ Status.error.code = 0b01#2 ∧ Status.tooManyRetries.code = 0b10#2 ∧
    Status.busy.code = 0b11#2) ∧
  (Profile.dht22.code = 0#1 ∧ Profile.dht11.code = 1#1) ∧
  ∀ s : State, ∃ v : ResponseWord, exec .getResult s = .next (s.answering v) ∧
    v.extractLsb' 51 13 = 0#13 ∧ v.extractLsb' 50 1 = s.result.profile.code ∧
    v.extractLsb' 48 2 = s.result.status.code ∧ v.extractLsb' 40 8 = s.result.tries ∧
    v.extractLsb' 32 8 = s.result.bytes.b0 ∧ v.extractLsb' 24 8 = s.result.bytes.b1 ∧
    v.extractLsb' 16 8 = s.result.bytes.b2 ∧ v.extractLsb' 8 8 = s.result.bytes.b3 ∧
    v.extractLsb' 0 8 = s.result.bytes.b4

/-- 40 R117, R118, R119, R120: the four predicates. -/
def Obligations.PredicatesAnswerTheStatus : Prop :=
  ∀ s : State,
    exec .isSuccess s = .next (s.answering (if s.result.status = .success then 1#64 else 0#64)) ∧
    exec .isBusy s = .next (s.answering (if s.result.status = .busy then 1#64 else 0#64)) ∧
    exec .isError s = .next (s.answering (if s.result.status = .error then 1#64 else 0#64)) ∧
    exec .isTooManyRetries s = .next (s.answering (if s.result.status = .tooManyRetries then 1#64 else 0#64))

/-- 40 R118, 10_state R23: Busy is never stored, so ISBUSY answers 0 in every state that meets the invariant. -/
def Obligations.IsBusyAnswersZero : Prop :=
  ∀ s : State, Inv s → exec .isBusy s = .next (s.answering 0#64)

/-- 40 R121 to R125, 30_encoding R86: the five derived-value accessors change no register and answer the value as a signed
32-bit integer with `defined = 1` when the status is Success. When it is not, `defined = 0`, and nothing is said of the
value (93 U1, log 13). The ranges that make the first three exact are 44 R212. -/
def Obligations.DerivedValuesAreAnsweredOnSuccess : Prop :=
  ∀ s : State, ∀ q ∈ [(Instr.getTempC, s.result.t10), (.getTempF, s.result.tf100), (.getHumidity, s.result.h10),
      (.getDewPointC, s.result.dp10), (.getDewPointF, s.result.dpf100)],
    ∃ v : ResponseWord, exec q.1 s = .next (s.answering v) ∧ v.extractLsb' 33 31 = 0#31 ∧
      (v.getLsbD 32 = true ↔ s.result.status = .success) ∧
      (s.result.status = .success → v.extractLsb' 0 32 = BitVec.ofInt 32 q.2)

/-- 40 R126: GETTRIES. -/
def Obligations.GetTriesAnswersTheCount : Prop :=
  ∀ s : State, ∃ v : ResponseWord, exec .getTries s = .next (s.answering v) ∧ v.toNat = s.result.tries.toNat

/-- 40_host_commands section 3 and 4: the two queries and the ten accessors change nothing but the response output; no
word of the buffer among it. -/
def Obligations.QueriesChangeNoRegister : Prop :=
  ∀ (s t : State) (i : Instr),
    i ∈ [.canStart, .getResult, .isSuccess, .isBusy, .isError, .isTooManyRetries, .getTempC, .getTempF, .getHumidity,
      .getDewPointC, .getDewPointF, .getTries] →
    exec i s = .next t →
      t = { s with out := { s.out with rsp := t.out.rsp } } ∧ ∀ w, Memory.read t.buf w = Memory.read s.buf w

/-! ### Transitions -/

/-- 41 R141: SVC.IDLE, and SERVICE in Idle. That SVC.IDLE has this effect in every state, also where its row is not
selected, is the model's choice (log 9). -/
def Obligations.ServiceInIdleDoesNothing : Prop :=
  Instr.svcIdle.row = .sel 0x000#9 0x180#9 ∧
  ∀ s : State, exec .svcIdle s = .next s ∧ (s.state = .idle → exec .service s = .next (s.answering 0#64))

/-- 41 R142, R143: START.WAIT and START.GO, and which of them SERVICE takes in Start. That the two have these effects in
every state, also where their rows are not selected, is the model's choice (log 9). -/
def Obligations.ServiceInStartHoldsTheMinimumInterval : Prop :=
  Instr.startWait.row = .sel 0x080#9 0x1C0#9 ∧ Instr.startGo.row = .sel 0x0C0#9 0x1C0#9 ∧
  ∀ s : State,
    let driven : State :=
      State.calling { s with lineDir := .output, lineOut := .low, stateTime := s.now, state := .sendStart }
        [.gpioOutputLow s.pin]
    exec .startWait s = .next s ∧ exec .startGo s = .next driven ∧
    (s.state = .start → s.now - s.lastQueryTime < (s.cfg.profile s.result.profile).minPeriodMs →
      exec .service s = .next (s.answering 0#64)) ∧
    (s.state = .start → (s.cfg.profile s.result.profile).minPeriodMs ≤ s.now - s.lastQueryTime →
      exec .service s = .next (driven.answering 0#64))

/-- 41 R144: SENDSTART.WAIT, and SERVICE in SendStart before the 18 ms are over. That SENDSTART.WAIT has this effect in
every state, also where its row is not selected, is the model's choice (log 9). -/
def Obligations.ServiceInSendStartHoldsTheLine : Prop :=
  Instr.sendStartWait.row = .sel 0x100#9 0x1A0#9 ∧
  ∀ s : State, exec .sendStartWait s = .next s ∧
    (s.state = .sendStart → s.now - s.stateTime < 18#32 → exec .service s = .next (s.answering 0#64))

/-- 41 R145, R146: SENDSTART.GO and SENDSTART.FAIL, and SERVICE in SendStart after 18 ms, which takes the one or the
other on the answer of the capture peripheral. That the two have these effects in every state, also where their rows are
not selected, is the model's choice (log 9). That `tries`, 8 bits wide, goes from 255 to 0 is read from the spec by
inference (log 19); no reachable state does it. Nothing is said of the contents of the buffer after the failed start
(R77, log 7). -/
def Obligations.EndOfTheStartPulseForksOnTheAnswer : Prop :=
  Instr.sendStartGo.row = .sel 0x130#9 0x1B0#9 ∧ Instr.sendStartFail.row = .sel 0x120#9 0x1B0#9 ∧
  ∀ s : State,
    let sampling : State :=
      State.calling
        { s with
          lineDir := .input, capDone := false, capturing := true, stateTime := s.now, state := .sampling
          result := { s.result with tries := s.result.tries + 1#8 } }
        [.gpioInput s.pin, .captureStart s.pin]
    let outcome : Sample := { s.result with status := .error, tries := s.result.tries + 1#8 }
    let failed : State :=
      State.calling
        { s with
          lineDir := .input, capDone := false, capturing := false, lastQueryTime := s.now, state := .idle
          result := outcome, out := { s.out with completion := some outcome } }
        [.gpioInput s.pin, .captureStart s.pin, .captureStop]
    exec .sendStartGo s = .next sampling ∧
    (s.state = .sendStart → 18#32 ≤ s.now - s.stateTime → s.capOk = true →
      exec .service s = .next (sampling.answering 0#64)) ∧
    ∃ m k, exec .sendStartFail s = .next (failed.discarding m k) ∧
      (s.state = .sendStart → 18#32 ≤ s.now - s.stateTime → s.capOk = false →
        exec .service s = .next ((failed.discarding m k).answering 0#64))

/-- 41 R148: SAMPLING.WAIT, and SERVICE in Sampling while the capture is not complete and the wait not over. That
SAMPLING.WAIT has this effect in every state, also where its row is not selected, is the model's choice (log 9). -/
def Obligations.ServiceInSamplingWaitsForTheCapture : Prop :=
  Instr.samplingWait.row = .sel 0x180#9 0x18C#9 ∧
  ∀ s : State, exec .samplingWait s = .next s ∧
    (s.state = .sampling → s.capDone = false → s.now - s.stateTime < s.cfg.sampleWaitMs →
      exec .service s = .next (s.answering 0#64))

/-- 41 R149: SAMPLING.TIMEOUT, and SERVICE in Sampling when the bounded wait has run out without a capture. That
SAMPLING.TIMEOUT has this effect in every state, also where its row is not selected, is the model's choice (log 9).
Nothing is said of the contents of the buffer after it (R77, log 7). -/
def Obligations.BoundedWaitCompletesWithError : Prop :=
  Instr.samplingTimeout.row = .sel 0x184#9 0x18C#9 ∧
  ∀ s : State,
    let outcome : Sample := { s.result with status := .error }
    let failed : State :=
      State.calling
        { s with
          capturing := false, lastQueryTime := s.now, state := .idle
          result := outcome, out := { s.out with completion := some outcome } }
        [.captureStop]
    ∃ m k, exec .samplingTimeout s = .next (failed.discarding m k) ∧
      (s.state = .sampling → s.capDone = false → s.cfg.sampleWaitMs ≤ s.now - s.stateTime →
        exec .service s = .next ((failed.discarding m k).answering 0#64))

/-- 41 R150, R153: SAMPLING.RETRY, and SERVICE in Sampling with an invalid frame and budget left. That SAMPLING.RETRY
has this effect in every state, also where its row is not selected, is the model's choice (log 9). Nothing is said of
the contents of the buffer after it (R77, log 7). -/
def Obligations.InvalidFrameWithBudgetLeftIsRetried : Prop :=
  Instr.samplingRetry.row = .sel 0x188#9 0x18B#9 ∧
  ∀ s : State,
    let d := decodeStream (s.cfg.profile s.result.profile).oneBitThreshold (samples s.cfg s.buf)
    let retried : State :=
      State.calling
        { s with
          capturing := false, lastQueryTime := s.now, state := .start
          result := { s.result with bytes := d.2 } }
        [.captureStop]
    ∃ m k, exec .samplingRetry s = .next (retried.discarding m k) ∧
      (s.state = .sampling → s.capDone = true → ¬(d.1 = true ∧ checksum d.2 = true) →
        s.result.tries.toNat < s.maxTries.toNat → exec .service s = .next ((retried.discarding m k).answering 0#64))

/-- 41 R151, R153, 60 R223: SAMPLING.EXHAUSTED, and SERVICE in Sampling with an invalid frame and the budget spent. That
SAMPLING.EXHAUSTED has this effect in every state, also where its row is not selected, is the model's choice (log 9).
Nothing is said of the contents of the buffer after it (R77, log 7). -/
def Obligations.InvalidFrameWithBudgetSpentCompletesWithTooManyRetries : Prop :=
  Instr.samplingExhausted.row = .sel 0x189#9 0x18B#9 ∧
  ∀ s : State,
    let d := decodeStream (s.cfg.profile s.result.profile).oneBitThreshold (samples s.cfg s.buf)
    let outcome : Sample := { s.result with status := .tooManyRetries, bytes := d.2 }
    let exhausted : State :=
      State.calling
        { s with
          capturing := false, lastQueryTime := s.now, state := .idle
          result := outcome, out := { s.out with completion := some outcome } }
        [.captureStop]
    ∃ m k, exec .samplingExhausted s = .next (exhausted.discarding m k) ∧
      (s.state = .sampling → s.capDone = true → ¬(d.1 = true ∧ checksum d.2 = true) →
        s.maxTries.toNat ≤ s.result.tries.toNat → exec .service s = .next ((exhausted.discarding m k).answering 0#64))

/-- 41 R152, R153, 60 R224: SAMPLING.SUCCESS, and SERVICE in Sampling with a valid frame, whatever the budget and the
bounded wait. That SAMPLING.SUCCESS has this effect in every state, also where its row is not selected, is the model's
choice (log 9). Nothing is said of the contents of the buffer after it (R77, log 7). -/
def Obligations.ValidFrameCompletesWithSuccess : Prop :=
  Instr.samplingSuccess.row = .sel 0x18A#9 0x18A#9 ∧
  ∀ s : State,
    let d := decodeStream (s.cfg.profile s.result.profile).oneBitThreshold (samples s.cfg s.buf)
    let outcome : Sample := { s.result with status := .success, bytes := d.2 }
    let done : State :=
      State.calling
        { s with
          capturing := false, lastQueryTime := s.now, state := .idle
          result := outcome, out := { s.out with completion := some outcome } }
        [.captureStop]
    ∃ m k, exec .samplingSuccess s = .next (done.discarding m k) ∧
      (s.state = .sampling → s.capDone = true → d.1 = true → checksum d.2 = true →
        exec .service s = .next ((done.discarding m k).answering 0#64))

/-- 41 R147: a failed start and an expired wait neither read the budget nor retry. With any other `max_tries` the two
transitions do the same and end the acquisition in Error, whatever `tries` is; and a SERVICE that may take one of them
does the same too. That the two have these effects in every state, also where their rows are not selected, is the
model's choice (log 9). That `tries` goes from 255 to 0 at a failed start is read by inference (log 19). Nothing is said
of the contents of the buffer after them (R77, log 7). -/
def Obligations.HardwareErrorIgnoresTheBudget : Prop :=
  ∀ (s : State) (n : Byte),
    (∀ i ∈ [Instr.sendStartFail, .samplingTimeout], ∃ t m k, exec i s = .next t ∧
      exec i { s with maxTries := n } = .next (State.discarding { t with maxTries := n } m k) ∧ t.state = .idle ∧
        t.result.status = .error) ∧
    (s.state = .sendStart ∨ (s.state = .sampling ∧ s.capDone = false) →
      ∃ t m k, exec .service s = .next t ∧
        exec .service { s with maxTries := n } = .next (State.discarding { t with maxTries := n } m k) ∧ t.state ≠ .start)

/-! ### The decoder, the checksum, the interpreter -/

/-- 42 R179: `frame_ok` holds exactly when the stream has 42 high-to-low flips, whatever the threshold. -/
def Obligations.FramingCountsTheFallingFlips : Prop :=
  ∀ (thr : Nat) (stream : List Bool), (decodeStream thr stream).1 = true ↔ fallingFlips stream = 42

/-- 42 R173 to R179: DECODE is the classification of the closed high runs of the stream. The first two are the preamble,
run `i + 2` gives frame bit `i`, bits without a run are 0, and framing asks for 42 runs. -/
def Obligations.DecodeClassifiesTheClosedHighRuns : Prop :=
  ∀ (thr : Nat) (stream : List Bool),
    ((decodeStream thr stream).1 = true ↔ (closedHighRuns stream).length = 42) ∧
    ∀ i < 40, (decodeStream thr stream).2.bit i =
      match (closedHighRuns stream)[i + 2]? with
      | some run => decide (thr < run)
      | none => false

/-- 42 R183: the round trip of a sensor's stream, with every run length and threshold. -/
def Obligations.DecodeRecoversTheSensorFrame : Prop :=
  ∀ (thr lead high0 low0 high1 tailLow tailHigh : Nat) (pairs : List (Nat × Nat)), pairs.length = 40 →
    (decodeStream thr (sensorStream lead high0 low0 high1 pairs tailLow tailHigh)).1 = true ∧
    ∀ (i : Nat) (hi : i < pairs.length),
      (decodeStream thr (sensorStream lead high0 low0 high1 pairs tailLow tailHigh)).2.bit i =
        decide (thr < pairs[i].2 + 1)

/-- 42 R175: the edges of the threshold. With a threshold no closed high run exceeds every bit is 0, and with threshold
0 every closed data pair is a 1. On the empty stream, which no buffer gives, the zero bytes are the model's choice (log
20). -/
def Obligations.ThresholdEdges : Prop :=
  ∀ (thr : Nat) (stream : List Bool),
    ((∀ run ∈ closedHighRuns stream, run ≤ thr) → (decodeStream thr stream).2 = ⟨0#8, 0#8, 0#8, 0#8, 0#8⟩) ∧
    ((decodeStream 0 stream).1 = true → (decodeStream 0 stream).2 = ⟨0xFF#8, 0xFF#8, 0xFF#8, 0xFF#8, 0xFF#8⟩)

/-- 43 R190, R193: the fifth byte made from the first four passes, and then changing any one byte fails. -/
def Obligations.ChecksumRejectsEverySingleByteChange : Prop :=
  (∀ b0 b1 b2 b3 : Byte, checksum ⟨b0, b1, b2, b3, b0 + b1 + b2 + b3⟩ = true) ∧
  ∀ (f : FrameBytes) (i : Nat) (v : Byte), checksum f = true → i < 5 → v ≠ f.get i → checksum (f.set i v) = false

/-- 44 R201, R202, R203, R204, R211: the four formulas in arithmetic of numbers; and the three derived values of section 3:
R207 and R209 with the Fahrenheit formula the spec adopts from general knowledge (log 23), R208 as the open function of
temperature and humidity, in this order (log 5). -/
def Obligations.InterpreterFormulas : Prop :=
  (∀ s : Sample, s.tf100 = 18 * s.t10 + 3200 ∧ s.dp10 = Config.dewPointC10 s.t10 s.h10 ∧
    s.dpf100 = 18 * s.dp10 + 3200) ∧
  ∀ (st : Status) (n : Byte) (f : FrameBytes),
    let signed (b : Byte) : Int := if b.toNat < 128 then b.toNat else (b.toNat : Int) - 256
    (Sample.mk .dht22 st n f).t10 =
      (if f.b2.toNat < 128 then (f.b2.toNat * 256 + f.b3.toNat : Int)
        else -((f.b2.toNat - 128) * 256 + f.b3.toNat : Int)) ∧
    (Sample.mk .dht22 st n f).h10 = f.b0.toNat * 256 + f.b1.toNat ∧
    (Sample.mk .dht11 st n f).t10 = 10 * signed f.b2 ∧
    (Sample.mk .dht11 st n f).h10 = 10 * signed f.b0

/-- 44 R212: the ranges, and that every value but the dew point is exact in the signed 32-bit field of the response. -/
def Obligations.InterpreterRangesFitTheResponse : Prop :=
  ∀ s : Sample,
    (s.profile = .dht22 → -32767 ≤ s.t10 ∧ s.t10 ≤ 32767 ∧ 0 ≤ s.h10 ∧ s.h10 ≤ 65535) ∧
    (s.profile = .dht11 → -1280 ≤ s.t10 ∧ s.t10 ≤ 1270 ∧ -1280 ≤ s.h10 ∧ s.h10 ≤ 1270 ∧
      s.t10 % 10 = 0 ∧ s.h10 % 10 = 0) ∧
    -586606 ≤ s.tf100 ∧ s.tf100 ≤ 593006 ∧
    (BitVec.ofInt 32 s.t10).toInt = s.t10 ∧ (BitVec.ofInt 32 s.h10).toInt = s.h10 ∧
    (BitVec.ofInt 32 s.tf100).toInt = s.tf100

/-! ### The buffer and the capture peripheral -/

/-- 20_memory R60, R67, R77: no operation of the block writes the raw capture buffer. One that calls `Capture.stop` gives the
buffer up, and nothing is said of the contents then (log 7). -/
def Obligations.NoOperationWritesTheBuffer : Prop :=
  ∀ (i : Instr) (s t : State), exec i s = .next t →
    ∃ cs, t.out.calls = s.out.calls ++ cs ∧
      (.captureStop ∉ cs → ∀ w, Memory.read t.buf w = Memory.read s.buf w)

/-- 60 R226, R228, 20_memory R62, R66: the capture peripheral's step fills the buffer with the words it delivers, sets
`cap_done`, and changes no other register. -/
def Obligations.CaptureStepFillsTheBufferAndSetsTheFlag : Prop :=
  ∀ (s : State) (words : List Nat) (rest : List Move), Inv s → s.moves = .capture words :: rest →
    s.capturing = true → s.capDone = false → s.inited = true → captureFits s.cfg words = true →
    ∃ t, step s = .next t ∧
      t = { s with moves := rest, capDone := true, buf := t.buf, out := ⟨none, false, none, []⟩ } ∧
      (∀ (w : Nat) (hw : w < words.length), Memory.read t.buf w = words[w]) ∧
      ∀ k < s.cfg.nSamples, (samples t.cfg t.buf)[k]? =
        (words[k / s.cfg.wordBits]?).map (fun v => v.testBit (s.cfg.wordBits - 1 - k % s.cfg.wordBits))

/-- 60 R226, 70_reset R271, 93 U12: where the capture peripheral's step is not enabled (in a quiescent state it never is),
or what it delivers is no capture, there is no such step; the model refuses the move by name (log 11). -/
def Obligations.CaptureStepNeedsItsEnables : Prop :=
  ∀ (s : State) (words : List Nat) (rest : List Move), s.moves = .capture words :: rest →
    (¬(s.capturing = true ∧ s.capDone = false ∧ s.inited = true) → step s = .refused .captureNotEnabled) ∧
    (Inv s → s.quiescent → step s = .refused .captureNotEnabled) ∧
    (s.capturing = true → s.capDone = false → s.inited = true → captureFits s.cfg words = false →
      step s = .refused .captureIllFormed)

/-! ### Invariants and whole-machine rules -/

/-- 10_state R42, with R22, R23, R33: every step keeps the invariant. -/
def Obligations.EveryStepKeepsTheInvariant : Prop :=
  ∀ s t : State, Inv s → step s = .next t → Inv t

/-- 60 R239: which transactions emit a completion event. -/
def Obligations.CompletionEventsAreExactlyTheOutcomes : Prop :=
  ∀ s t : State, s.moves ≠ [] → step s = .next t →
    (t.out.completion ≠ none ↔
      (∃ pin p now capOk rest, s.nextIs (.request pin p) now capOk rest ∧ s.state ≠ .idle) ∨
      (∃ now capOk rest, s.nextIs .service now capOk rest ∧ s.state ≠ .idle ∧ t.state = .idle))

/-- 60 R238, R240: the event a SERVICE emits is a copy of the stored Sample, with one of the three outcomes; the state is
Idle, so that the next REQUEST is accepted, and the end of the attempt is stamped. From a state that meets the
invariant the event carries at least one attempt (R220, R126). -/
def Obligations.CompletionCarriesTheStoredSample : Prop :=
  ∀ (s t : State) (now : Time) (capOk : Bool) (rest : List Move) (v : Sample),
    s.nextIs .service now capOk rest → step s = .next t → t.out.completion = some v →
      v = t.result ∧ v.status ≠ .busy ∧ t.state = .idle ∧ t.lastQueryTime = now ∧ t.capturing = false ∧
        (Inv s → 1 ≤ v.tries.toNat)

/-- 41 R140, R160, 10_state R24: `state` changes only along the source's diagram, from Idle by an accepted REQUEST and from
every other state by a SERVICE (or by reset). -/
def Obligations.StateChangesOnlyAlongTheDiagram : Prop :=
  ∀ s t : State, ¬s.nextIsReset → step s = .next t → t.state ≠ s.state →
    (∃ pin p now capOk rest, s.nextIs (.request pin p) now capOk rest ∧ s.state = .idle ∧ t.state = .start) ∨
    (∃ now capOk rest, s.nextIs .service now capOk rest ∧
      (s.state, t.state) ∈ [(AcqState.start, AcqState.sendStart), (.sendStart, .sampling), (.sendStart, .idle),
        (.sampling, .idle), (.sampling, .start)])

/-- 20_memory R75, 10_state R25, R26: `pin` and `profile` cannot change while an acquisition is in flight. -/
def Obligations.PinAndProfileAreLatchedInFlight : Prop :=
  ∀ s t : State, s.inFlight → ¬s.nextIsReset → step s = .next t →
    t.pin = s.pin ∧ t.result.profile = s.result.profile

/-- 10_state R27: `max_tries` is written by SETMAXTRIES and by reset only. -/
def Obligations.OnlySetMaxTriesWritesTheSetting : Prop :=
  ∀ s t : State, ¬s.nextSetsMaxTries → ¬s.nextIsReset → step s = .next t → t.maxTries = s.maxTries

/-- 10_state R22: the try counter counts the attempts. A command raises it by one, without overflow, exactly when SendStart
is left; an accepted REQUEST clears it; nothing else writes it. -/
def Obligations.TriesCountTheAttempts : Prop :=
  ∀ s t : State, Inv s → s.nextIsCommand → step s = .next t →
    t.result.tries.toNat =
      if s.state = .sendStart ∧ t.state ≠ .sendStart then s.result.tries.toNat + 1
      else if s.state = .idle ∧ t.state = .start then 0
      else s.result.tries.toNat

/-- 10_state R29: `last_query_time` is stamped exactly when SendStart or Sampling is left for Idle or Start. -/
def Obligations.LastQueryTimeStampsTheEndOfAnAttempt : Prop :=
  ∀ (s t : State) (w : CommandWord) (now : Time) (capOk : Bool) (rest : List Move),
    s.moves = .command w now capOk :: rest → step s = .next t →
    t.lastQueryTime =
      if (s.state = .sendStart ∨ s.state = .sampling) ∧ (t.state = .idle ∨ t.state = .start) then now
      else s.lastQueryTime

/-- 70_reset R263, 41 R144: only a reset or a SERVICE at least 18 ms after START.GO releases the line. -/
def Obligations.StartPulseLastsAtLeast18Ms : Prop :=
  ∀ s t : State, Inv s → ¬s.nextIsReset → step s = .next t → s.lineDir = .output → t.lineDir = .input →
    ∃ now capOk rest, s.nextIs .service now capOk rest ∧ 18 ≤ (now - s.stateTime).toNat

/-- 41 R159: the line is driven low only by a SERVICE at least the profile's minimum interval after the end of the previous
attempt. -/
def Obligations.LineIsDrivenOnlyAfterTheMinimumInterval : Prop :=
  ∀ s t : State, step s = .next t → s.lineDir = .input → t.lineDir = .output →
    ∃ now capOk rest, s.nextIs .service now capOk rest ∧ s.state = .start ∧
      (s.cfg.profile s.result.profile).minPeriodMs.toNat ≤ (now - s.lastQueryTime).toNat

/-- 70_reset R254: without INIT no capture completes, so an acquisition can only end in Error. -/
def Obligations.WithoutInitOnlyErrorCompletes : Prop :=
  ∀ (s t : State) (now : Time) (capOk : Bool) (rest : List Move) (v : Sample), Inv s → s.inited = false →
    s.nextIs .service now capOk rest → step s = .next t → t.out.completion = some v → v.status = .error

/-! ### The retry budget and termination -/

/-- 41 R158: as long as SETMAXTRIES is not issued in flight, every step keeps the attempts within `max(1, max_tries)`. -/
def Obligations.EveryStepKeepsTheBudget : Prop :=
  ∀ s t : State, Inv s → WithinBudget s → (s.inFlight → ¬s.nextSetsMaxTries) → step s = .next t → WithinBudget t

/-- 41 R158: TooManyRetries comes at exactly `max(1, max_tries)` attempts, and a retry leaves at least one. -/
def Obligations.TooManyRetriesComesAtTheBudget : Prop :=
  ∀ (s t : State) (now : Time) (capOk : Bool) (rest : List Move), Inv s → WithinBudget s →
    s.nextIs .service now capOk rest → step s = .next t →
      (∀ v, t.out.completion = some v → v.status = .tooManyRetries → v.tries.toNat = s.attemptsAllowed) ∧
      (s.state = .sampling → t.state = .start → t.result.tries.toNat < s.attemptsAllowed)

/-- 70_reset R262, 60 R244: a SERVICE whose clock meets the wait of the present state takes the acquisition nearer to its
end. -/
def Obligations.ServicedWaitBringsTheEndNearer : Prop :=
  ∀ (s : State) (now : Time) (capOk : Bool) (rest : List Move), Inv s → WithinBudget s →
    s.nextIs .service now capOk rest → s.waitOver now →
      ∃ t, step s = .next t ∧ t.waitsLeft < s.waitsLeft ∧ Inv t ∧ WithinBudget t

/-- 70_reset R262: termination. Along any run of steps with an acquisition in flight throughout and no SETMAXTRIES, however
the environment chooses and whatever other commands, captures and early SERVICE commands come between, at most
`3 * max(1, max_tries)` of the steps are SERVICE commands that meet the wait of their state. -/
def Obligations.ServicedAcquisitionTerminates : Prop :=
  ∀ (run : Nat → State) (n : Nat) (serviced : List Nat), Inv (run 0) → WithinBudget (run 0) →
    (∀ k < n, (run k).inFlight ∧ ¬(run k).nextSetsMaxTries ∧ step (run k) = .next (run (k + 1))) →
    serviced.Pairwise (· < ·) →
    (∀ k ∈ serviced, k < n ∧ ∃ now capOk rest, (run k).nextIs .service now capOk rest ∧ (run k).waitOver now) →
    serviced.length ≤ 3 * (run 0).attemptsAllowed
end

