-- ==== Sys2Proof/Laws/Config.lean ====
section
/-! SUPPORT. The block's parameters meet the constraints of 00_scope R10, and every tuple that does is reached. -/

namespace Sys2Proof

theorem normalise_wellFormed (p : Params) : p.normalise.wellFormed = true := by
  simp [Params.wellFormed, Params.normalise, Params.nSamples, ProfileParams.clamp]

theorem params_wellFormed : Config.params.wellFormed = true := normalise_wellFormed _

theorem clamp_of_le {n : Nat} {q : ProfileParams} (h : q.oneBitThreshold ≤ n) : q.clamp n = q := by
  cases q; simpa [ProfileParams.clamp] using h

theorem normalise_reaches_every_wellFormed {p : Params} (h : p.wellFormed = true) : ∃ q : Params, q.normalise = p := by
  obtain ⟨wordBits, bufWords, rate, wait, a, b⟩ := p
  simp only [Params.wellFormed, Params.nSamples, Bool.and_eq_true] at h
  obtain ⟨⟨⟨hw, hb⟩, h22⟩, h11⟩ := h
  have hw := of_decide_eq_true hw
  have hb := of_decide_eq_true hb
  refine ⟨⟨wordBits - 1, bufWords - 1, rate, wait, a, b⟩, ?_⟩
  have hw' : wordBits - 1 + 1 = wordBits := by omega
  have hb' : bufWords - 1 + 1 = bufWords := by omega
  simp [Params.normalise, hw', hb', clamp_of_le (of_decide_eq_true h22), clamp_of_le (of_decide_eq_true h11)]

theorem captureFits_iff {p : Params} {words : List Nat} :
    captureFits p words = true ↔ words.length = p.bufWords ∧ ∀ v ∈ words, v < 2 ^ p.wordBits := by
  simp [captureFits]

end Sys2Proof
end

