-- ==== Sys2Proof/Laws/Decoder.lean ====
section
/-! SUPPORT. The pulse decoder said once: the bits of the frame bytes, the closed high runs of a stream by recursion, and
the scan as a fold over those runs (42 R173 to R178). -/

namespace Sys2Proof.Machine

/-! ### Frame bytes -/

theorem get_set (f : FrameBytes) (a b : Nat) (v : Byte) (hb : b < 5) :
    (f.set a v).get b = if a = b then v else f.get b := by
  unfold FrameBytes.set FrameBytes.get
  by_cases ha : a < 5
  · interval_cases a <;> interval_cases b <;> simp
  · rw [if_neg (by omega)]
    obtain ⟨m, rfl⟩ : ∃ m, a = m + 5 := ⟨a - 5, by omega⟩
    rfl

theorem shifted_bit : ∀ k j : Fin 8, (0x80#8 >>> k.val).getLsbD (7 - j.val) = decide (k = j) := by decide

/-- `setBit` sets one frame bit and leaves the others alone (42 R176, 30_encoding R91). -/
theorem bit_setBit (f : FrameBytes) (p i : Nat) (hi : i < 40) : (f.setBit p).bit i = (decide (p = i) || f.bit i) := by
  unfold FrameBytes.setBit FrameBytes.bit
  rw [get_set _ _ _ _ (by omega)]
  by_cases h : p / 8 = i / 8
  · have := shifted_bit ⟨p % 8, Nat.mod_lt _ (by omega)⟩ ⟨i % 8, Nat.mod_lt _ (by omega)⟩
    simp only at this
    rw [if_pos h, BitVec.getLsbD_or, this, h, Bool.or_comm]
    congr 1
    simp only [Fin.mk.injEq, decide_eq_decide]
    omega
  · have : p ≠ i := by rintro rfl; exact h rfl
    simp [if_neg h, this]

theorem bit_zero (i : Nat) : FrameBytes.zero.bit i = false := by
  unfold FrameBytes.bit FrameBytes.get FrameBytes.zero
  split <;> simp

/-- Five bytes with the same forty bits are the same. -/
theorem frame_ext {f g : FrameBytes} (h : ∀ i < 40, f.bit i = g.bit i) : f = g := by
  have key : ∀ k < 5, f.get k = g.get k := by
    intro k hk
    apply BitVec.eq_of_getLsbD_eq
    intro j hj
    have := h (8 * k + (7 - j)) (by omega)
    unfold FrameBytes.bit at this
    rwa [show (8 * k + (7 - j)) / 8 = k by omega, show 7 - (8 * k + (7 - j)) % 8 = j by omega] at this
  have a0 := key 0 (by omega)
  have a1 := key 1 (by omega)
  have a2 := key 2 (by omega)
  have a3 := key 3 (by omega)
  have a4 := key 4 (by omega)
  cases f; cases g
  simp only [FrameBytes.get] at a0 a1 a2 a3 a4
  simp only [a0, a1, a2, a3, a4]

/-! ### Runs -/

/-- The closed high runs of a stream that goes on with `l` when `run` samples of level `prev` are behind it. -/
def highRunsFrom (prev : Bool) (run : Nat) : List Bool → List Nat
  | [] => []
  | b :: l => if b = prev then highRunsFrom prev (run + 1) l else (if prev then [run] else []) ++ highRunsFrom b 1 l

theorem splitBy_loop_highRuns (l : List Bool) : ∀ (prev : Bool) (k : Nat) (gs : List (List Bool)),
    ((List.splitBy.loop (· == ·) l prev (List.replicate k prev) gs).dropLast.filter
        (fun run => run.head? == some true)).map List.length =
      (gs.reverse.filter (fun run => run.head? == some true)).map List.length ++ highRunsFrom prev (k + 1) l := by
  induction l with
  | nil => intro prev k gs; simp [List.splitBy.loop, highRunsFrom]
  | cons b l ih =>
    intro prev k gs
    rw [List.splitBy.loop]
    by_cases h : prev = b
    · subst h
      simp only [beq_self_eq_true]
      rw [← List.replicate_succ, ih]
      simp [highRunsFrom]
    · have hb : (prev == b) = false := by simpa using h
      have := ih b 0 ((prev :: List.replicate k prev).reverse :: gs)
      simp only [List.replicate_zero] at this
      rw [hb]
      simp only []
      rw [this, ← List.replicate_succ, List.reverse_replicate, highRunsFrom, if_neg (fun e => h e.symm)]
      cases prev <;> simp [List.filter_append, List.replicate_succ]

theorem closedHighRuns_nil : closedHighRuns [] = [] := rfl

theorem closedHighRuns_cons (b : Bool) (l : List Bool) : closedHighRuns (b :: l) = highRunsFrom b 1 l := by
  have := splitBy_loop_highRuns l b 0 []
  simpa [closedHighRuns, List.splitBy] using this

/-- More samples of the level of the run that is open. -/
theorem highRunsFrom_same (prev : Bool) (k : Nat) (l : List Bool) :
    ∀ n, highRunsFrom prev n (List.replicate k prev ++ l) = highRunsFrom prev (n + k) l := by
  induction k with
  | zero => intro n; rfl
  | succ k ih =>
    intro n
    rw [List.replicate_succ, List.cons_append, highRunsFrom, if_pos rfl, ih]
    congr 1; omega

/-- A rise closes no pair. -/
theorem highRunsFrom_rise (n k : Nat) (l : List Bool) :
    highRunsFrom false n (List.replicate (k + 1) true ++ l) = highRunsFrom true (k + 1) l := by
  rw [List.replicate_succ, List.cons_append, highRunsFrom, if_neg (by simp), highRunsFrom_same, Nat.add_comm]
  rfl

/-- A fall closes one. -/
theorem highRunsFrom_fall (n k : Nat) (l : List Bool) :
    highRunsFrom true n (List.replicate (k + 1) false ++ l) = n :: highRunsFrom false (k + 1) l := by
  rw [List.replicate_succ, List.cons_append, highRunsFrom, if_neg (by simp), highRunsFrom_same, Nat.add_comm]
  rfl

/-- A closed high run has at least one sample and no more than the stream. -/
theorem highRunsFrom_bounds (l : List Bool) :
    ∀ b n, 0 < n → ∀ r ∈ highRunsFrom b n l, 0 < r ∧ r ≤ n + l.length := by
  induction l with
  | nil => intro b n _ r hr; cases hr
  | cons c l ih =>
    intro b n hn r hr
    rw [List.length_cons]
    rw [highRunsFrom] at hr
    split at hr
    · have := ih _ _ (by omega) r hr; omega
    · rcases List.mem_append.mp hr with hr | hr
      · cases b <;> simp at hr; omega
      · have := ih _ _ (by omega) r hr; omega

/-! ### The scan -/

/-- What one closed high run does to the pair counter and the bytes (42 R174 to R177). -/
def closeRun (thr : Nat) (s : Int × FrameBytes) (run : Nat) : Int × FrameBytes :=
  (s.1 + 1, if 0 ≤ s.1 ∧ s.1 < 40 ∧ thr < run then s.2.setBit s.1.toNat else s.2)

/-- The scan is the fold of `closeRun` over the closed high runs. -/
theorem scan_folds_runs (thr : Nat) (l : List Bool) : ∀ s : Scan,
    ((l.foldl (Scan.next thr) s).pair, (l.foldl (Scan.next thr) s).out) =
      (highRunsFrom s.prev s.run l).foldl (closeRun thr) (s.pair, s.out) := by
  induction l with
  | nil => intro s; rfl
  | cons b l ih =>
    intro s
    rw [List.foldl_cons, ih, highRunsFrom]
    unfold Scan.next
    by_cases h : b = s.prev
    · simp [h]
    · cases hp : s.prev
      · simp [hp] at h; simp [h]
      · simp [hp] at h; simp [h, Scan.closePair, closeRun, Config.frameBits]; rfl

theorem closeRun_counts (thr : Nat) (l : List Nat) : ∀ s, (l.foldl (closeRun thr) s).1 = s.1 + l.length := by
  induction l with
  | nil => intro s; simp
  | cons r l ih => intro s; rw [List.foldl_cons, ih]; simp [closeRun]; omega

end Sys2Proof.Machine
end

