-- ==== Sys2Proof/Laws/Flags.lean ====
section
/-! SUPPORT. The conditions of 41 R155 as propositions, both ways. -/

namespace Sys2Proof.Machine

variable {s : State}

theorem gateOpen_iff :
    gateOpen s = true ↔ (s.cfg.profile s.result.profile).minPeriodMs ≤ s.now - s.lastQueryTime := decide_eq_true_iff

theorem gateOpen_eq_false_iff :
    gateOpen s = false ↔ s.now - s.lastQueryTime < (s.cfg.profile s.result.profile).minPeriodMs := by
  rw [← Bool.not_eq_true, gateOpen_iff, BitVec.not_le]

theorem pulseDone_iff : pulseDone s = true ↔ 18#32 ≤ s.now - s.stateTime := decide_eq_true_iff

theorem pulseDone_eq_false_iff : pulseDone s = false ↔ s.now - s.stateTime < 18#32 := by
  rw [← Bool.not_eq_true, pulseDone_iff, BitVec.not_le]

theorem waitExpired_iff : waitExpired s = true ↔ s.cfg.sampleWaitMs ≤ s.now - s.stateTime := decide_eq_true_iff

theorem waitExpired_eq_false_iff : waitExpired s = false ↔ s.now - s.stateTime < s.cfg.sampleWaitMs := by
  rw [← Bool.not_eq_true, waitExpired_iff, BitVec.not_le]

theorem frameValid_iff : frameValid s = true ↔ (decodeBuffer s).1 = true ∧ checksum (decodeBuffer s).2 = true :=
  Bool.and_eq_true_iff

theorem budgetSpent_iff : budgetSpent s = true ↔ s.maxTries.toNat ≤ s.result.tries.toNat := decide_eq_true_iff

theorem budgetSpent_eq_false_iff : budgetSpent s = false ↔ s.result.tries.toNat < s.maxTries.toNat := by
  rw [← Bool.not_eq_true, budgetSpent_iff, Nat.not_le]

/-- A selector and its word determine each other (30_encoding R94). -/
theorem Sel.ofWord_toWord (q : Sel) : Sel.ofWord q.toWord = q := by
  obtain ⟨st, a, b, c, d, e, f, g⟩ := q
  cases st <;> cases a <;> cases b <;> cases c <;> cases d <;> cases e <;> cases f <;> cases g <;> rfl

end Sys2Proof.Machine
end

