-- ==== Sys2Proof/Laws/State.lean ====
section
/-! SUPPORT. One lemma per field per update of the state, each by `rfl`, so that no proof unfolds a record update; and the
two ways of writing an answer as one. -/

namespace Sys2Proof.Machine

variable (s : State)

@[simp] theorem respond_cfg (v : ResponseWord) : (respond v s).cfg = s.cfg := rfl
@[simp] theorem respond_moves (v : ResponseWord) : (respond v s).moves = s.moves := rfl
@[simp] theorem respond_now (v : ResponseWord) : (respond v s).now = s.now := rfl
@[simp] theorem respond_capOk (v : ResponseWord) : (respond v s).capOk = s.capOk := rfl
@[simp] theorem respond_state (v : ResponseWord) : (respond v s).state = s.state := rfl
@[simp] theorem respond_result (v : ResponseWord) : (respond v s).result = s.result := rfl
@[simp] theorem respond_pin (v : ResponseWord) : (respond v s).pin = s.pin := rfl
@[simp] theorem respond_maxTries (v : ResponseWord) : (respond v s).maxTries = s.maxTries := rfl
@[simp] theorem respond_stateTime (v : ResponseWord) : (respond v s).stateTime = s.stateTime := rfl
@[simp] theorem respond_lastQueryTime (v : ResponseWord) : (respond v s).lastQueryTime = s.lastQueryTime := rfl
@[simp] theorem respond_capDone (v : ResponseWord) : (respond v s).capDone = s.capDone := rfl
@[simp] theorem respond_capturing (v : ResponseWord) : (respond v s).capturing = s.capturing := rfl
@[simp] theorem respond_inited (v : ResponseWord) : (respond v s).inited = s.inited := rfl
@[simp] theorem respond_lineDir (v : ResponseWord) : (respond v s).lineDir = s.lineDir := rfl
@[simp] theorem respond_lineOut (v : ResponseWord) : (respond v s).lineOut = s.lineOut := rfl
@[simp] theorem respond_buf (v : ResponseWord) : (respond v s).buf = s.buf := rfl
@[simp] theorem respond_out (v : ResponseWord) : (respond v s).out = { s.out with rsp := some v } := rfl
@[simp] theorem respond_discards (v : ResponseWord) : (respond v s).discards = s.discards := rfl

@[simp] theorem emitCompletion_cfg (v : Sample) : (emitCompletion v s).cfg = s.cfg := rfl
@[simp] theorem emitCompletion_moves (v : Sample) : (emitCompletion v s).moves = s.moves := rfl
@[simp] theorem emitCompletion_now (v : Sample) : (emitCompletion v s).now = s.now := rfl
@[simp] theorem emitCompletion_capOk (v : Sample) : (emitCompletion v s).capOk = s.capOk := rfl
@[simp] theorem emitCompletion_state (v : Sample) : (emitCompletion v s).state = s.state := rfl
@[simp] theorem emitCompletion_result (v : Sample) : (emitCompletion v s).result = s.result := rfl
@[simp] theorem emitCompletion_pin (v : Sample) : (emitCompletion v s).pin = s.pin := rfl
@[simp] theorem emitCompletion_maxTries (v : Sample) : (emitCompletion v s).maxTries = s.maxTries := rfl
@[simp] theorem emitCompletion_stateTime (v : Sample) : (emitCompletion v s).stateTime = s.stateTime := rfl
@[simp] theorem emitCompletion_lastQueryTime (v : Sample) : (emitCompletion v s).lastQueryTime = s.lastQueryTime := rfl
@[simp] theorem emitCompletion_capDone (v : Sample) : (emitCompletion v s).capDone = s.capDone := rfl
@[simp] theorem emitCompletion_capturing (v : Sample) : (emitCompletion v s).capturing = s.capturing := rfl
@[simp] theorem emitCompletion_inited (v : Sample) : (emitCompletion v s).inited = s.inited := rfl
@[simp] theorem emitCompletion_lineDir (v : Sample) : (emitCompletion v s).lineDir = s.lineDir := rfl
@[simp] theorem emitCompletion_lineOut (v : Sample) : (emitCompletion v s).lineOut = s.lineOut := rfl
@[simp] theorem emitCompletion_buf (v : Sample) : (emitCompletion v s).buf = s.buf := rfl
@[simp] theorem emitCompletion_out (v : Sample) : (emitCompletion v s).out = { s.out with completion := some v } := rfl
@[simp] theorem emitCompletion_discards (v : Sample) : (emitCompletion v s).discards = s.discards := rfl

@[simp] theorem callDevice_cfg (c : ExternalCall) : (callDevice c s).cfg = s.cfg := rfl
@[simp] theorem callDevice_moves (c : ExternalCall) : (callDevice c s).moves = s.moves := rfl
@[simp] theorem callDevice_now (c : ExternalCall) : (callDevice c s).now = s.now := rfl
@[simp] theorem callDevice_capOk (c : ExternalCall) : (callDevice c s).capOk = s.capOk := rfl
@[simp] theorem callDevice_state (c : ExternalCall) : (callDevice c s).state = s.state := rfl
@[simp] theorem callDevice_result (c : ExternalCall) : (callDevice c s).result = s.result := rfl
@[simp] theorem callDevice_pin (c : ExternalCall) : (callDevice c s).pin = s.pin := rfl
@[simp] theorem callDevice_maxTries (c : ExternalCall) : (callDevice c s).maxTries = s.maxTries := rfl
@[simp] theorem callDevice_stateTime (c : ExternalCall) : (callDevice c s).stateTime = s.stateTime := rfl
@[simp] theorem callDevice_lastQueryTime (c : ExternalCall) : (callDevice c s).lastQueryTime = s.lastQueryTime := rfl
@[simp] theorem callDevice_capDone (c : ExternalCall) : (callDevice c s).capDone = s.capDone := rfl
@[simp] theorem callDevice_capturing (c : ExternalCall) : (callDevice c s).capturing = s.capturing := rfl
@[simp] theorem callDevice_inited (c : ExternalCall) : (callDevice c s).inited = s.inited := rfl
@[simp] theorem callDevice_lineDir (c : ExternalCall) : (callDevice c s).lineDir = s.lineDir := rfl
@[simp] theorem callDevice_lineOut (c : ExternalCall) : (callDevice c s).lineOut = s.lineOut := rfl
@[simp] theorem callDevice_buf (c : ExternalCall) : (callDevice c s).buf = s.buf := rfl
@[simp] theorem callDevice_out (c : ExternalCall) : (callDevice c s).out = { s.out with calls := s.out.calls ++ [c] } := rfl
@[simp] theorem callDevice_discards (c : ExternalCall) : (callDevice c s).discards = s.discards := rfl

@[simp] theorem clearResult_cfg (p : Profile) : (clearResult p s).cfg = s.cfg := rfl
@[simp] theorem clearResult_moves (p : Profile) : (clearResult p s).moves = s.moves := rfl
@[simp] theorem clearResult_now (p : Profile) : (clearResult p s).now = s.now := rfl
@[simp] theorem clearResult_capOk (p : Profile) : (clearResult p s).capOk = s.capOk := rfl
@[simp] theorem clearResult_state (p : Profile) : (clearResult p s).state = s.state := rfl
@[simp] theorem clearResult_result (p : Profile) : (clearResult p s).result = Sample.cleared p := rfl
@[simp] theorem clearResult_pin (p : Profile) : (clearResult p s).pin = s.pin := rfl
@[simp] theorem clearResult_maxTries (p : Profile) : (clearResult p s).maxTries = s.maxTries := rfl
@[simp] theorem clearResult_stateTime (p : Profile) : (clearResult p s).stateTime = s.stateTime := rfl
@[simp] theorem clearResult_lastQueryTime (p : Profile) : (clearResult p s).lastQueryTime = s.lastQueryTime := rfl
@[simp] theorem clearResult_capDone (p : Profile) : (clearResult p s).capDone = s.capDone := rfl
@[simp] theorem clearResult_capturing (p : Profile) : (clearResult p s).capturing = s.capturing := rfl
@[simp] theorem clearResult_inited (p : Profile) : (clearResult p s).inited = s.inited := rfl
@[simp] theorem clearResult_lineDir (p : Profile) : (clearResult p s).lineDir = s.lineDir := rfl
@[simp] theorem clearResult_lineOut (p : Profile) : (clearResult p s).lineOut = s.lineOut := rfl
@[simp] theorem clearResult_buf (p : Profile) : (clearResult p s).buf = s.buf := rfl
@[simp] theorem clearResult_out (p : Profile) : (clearResult p s).out = s.out := rfl
@[simp] theorem clearResult_discards (p : Profile) : (clearResult p s).discards = s.discards := rfl

@[simp] theorem gpioOutputLow_cfg : (gpioOutputLow s).cfg = s.cfg := rfl
@[simp] theorem gpioOutputLow_moves : (gpioOutputLow s).moves = s.moves := rfl
@[simp] theorem gpioOutputLow_now : (gpioOutputLow s).now = s.now := rfl
@[simp] theorem gpioOutputLow_capOk : (gpioOutputLow s).capOk = s.capOk := rfl
@[simp] theorem gpioOutputLow_state : (gpioOutputLow s).state = s.state := rfl
@[simp] theorem gpioOutputLow_result : (gpioOutputLow s).result = s.result := rfl
@[simp] theorem gpioOutputLow_pin : (gpioOutputLow s).pin = s.pin := rfl
@[simp] theorem gpioOutputLow_maxTries : (gpioOutputLow s).maxTries = s.maxTries := rfl
@[simp] theorem gpioOutputLow_stateTime : (gpioOutputLow s).stateTime = s.stateTime := rfl
@[simp] theorem gpioOutputLow_lastQueryTime : (gpioOutputLow s).lastQueryTime = s.lastQueryTime := rfl
@[simp] theorem gpioOutputLow_capDone : (gpioOutputLow s).capDone = s.capDone := rfl
@[simp] theorem gpioOutputLow_capturing : (gpioOutputLow s).capturing = s.capturing := rfl
@[simp] theorem gpioOutputLow_inited : (gpioOutputLow s).inited = s.inited := rfl
@[simp] theorem gpioOutputLow_lineDir : (gpioOutputLow s).lineDir = .output := rfl
@[simp] theorem gpioOutputLow_lineOut : (gpioOutputLow s).lineOut = .low := rfl
@[simp] theorem gpioOutputLow_buf : (gpioOutputLow s).buf = s.buf := rfl
@[simp] theorem gpioOutputLow_out : (gpioOutputLow s).out = { s.out with calls := s.out.calls ++ [.gpioOutputLow s.pin] } := rfl
@[simp] theorem gpioOutputLow_discards : (gpioOutputLow s).discards = s.discards := rfl

@[simp] theorem gpioInput_cfg : (gpioInput s).cfg = s.cfg := rfl
@[simp] theorem gpioInput_moves : (gpioInput s).moves = s.moves := rfl
@[simp] theorem gpioInput_now : (gpioInput s).now = s.now := rfl
@[simp] theorem gpioInput_capOk : (gpioInput s).capOk = s.capOk := rfl
@[simp] theorem gpioInput_state : (gpioInput s).state = s.state := rfl
@[simp] theorem gpioInput_result : (gpioInput s).result = s.result := rfl
@[simp] theorem gpioInput_pin : (gpioInput s).pin = s.pin := rfl
@[simp] theorem gpioInput_maxTries : (gpioInput s).maxTries = s.maxTries := rfl
@[simp] theorem gpioInput_stateTime : (gpioInput s).stateTime = s.stateTime := rfl
@[simp] theorem gpioInput_lastQueryTime : (gpioInput s).lastQueryTime = s.lastQueryTime := rfl
@[simp] theorem gpioInput_capDone : (gpioInput s).capDone = s.capDone := rfl
@[simp] theorem gpioInput_capturing : (gpioInput s).capturing = s.capturing := rfl
@[simp] theorem gpioInput_inited : (gpioInput s).inited = s.inited := rfl
@[simp] theorem gpioInput_lineDir : (gpioInput s).lineDir = .input := rfl
@[simp] theorem gpioInput_lineOut : (gpioInput s).lineOut = s.lineOut := rfl
@[simp] theorem gpioInput_buf : (gpioInput s).buf = s.buf := rfl
@[simp] theorem gpioInput_out : (gpioInput s).out = { s.out with calls := s.out.calls ++ [.gpioInput s.pin] } := rfl
@[simp] theorem gpioInput_discards : (gpioInput s).discards = s.discards := rfl

@[simp] theorem captureStart_cfg : (captureStart s).cfg = s.cfg := rfl
@[simp] theorem captureStart_moves : (captureStart s).moves = s.moves := rfl
@[simp] theorem captureStart_now : (captureStart s).now = s.now := rfl
@[simp] theorem captureStart_capOk : (captureStart s).capOk = s.capOk := rfl
@[simp] theorem captureStart_state : (captureStart s).state = s.state := rfl
@[simp] theorem captureStart_result : (captureStart s).result = s.result := rfl
@[simp] theorem captureStart_pin : (captureStart s).pin = s.pin := rfl
@[simp] theorem captureStart_maxTries : (captureStart s).maxTries = s.maxTries := rfl
@[simp] theorem captureStart_stateTime : (captureStart s).stateTime = s.stateTime := rfl
@[simp] theorem captureStart_lastQueryTime : (captureStart s).lastQueryTime = s.lastQueryTime := rfl
@[simp] theorem captureStart_capDone : (captureStart s).capDone = s.capDone := rfl
@[simp] theorem captureStart_capturing : (captureStart s).capturing = s.capturing := rfl
@[simp] theorem captureStart_inited : (captureStart s).inited = s.inited := rfl
@[simp] theorem captureStart_lineDir : (captureStart s).lineDir = s.lineDir := rfl
@[simp] theorem captureStart_lineOut : (captureStart s).lineOut = s.lineOut := rfl
@[simp] theorem captureStart_buf : (captureStart s).buf = s.buf := rfl
@[simp] theorem captureStart_out : (captureStart s).out = { s.out with calls := s.out.calls ++ [.captureStart s.pin] } := rfl
@[simp] theorem captureStart_discards : (captureStart s).discards = s.discards := rfl

@[simp] theorem discardBuffer_cfg : (discardBuffer s).cfg = s.cfg := rfl
@[simp] theorem discardBuffer_moves : (discardBuffer s).moves = s.moves := rfl
@[simp] theorem discardBuffer_now : (discardBuffer s).now = s.now := rfl
@[simp] theorem discardBuffer_capOk : (discardBuffer s).capOk = s.capOk := rfl
@[simp] theorem discardBuffer_state : (discardBuffer s).state = s.state := rfl
@[simp] theorem discardBuffer_result : (discardBuffer s).result = s.result := rfl
@[simp] theorem discardBuffer_pin : (discardBuffer s).pin = s.pin := rfl
@[simp] theorem discardBuffer_maxTries : (discardBuffer s).maxTries = s.maxTries := rfl
@[simp] theorem discardBuffer_stateTime : (discardBuffer s).stateTime = s.stateTime := rfl
@[simp] theorem discardBuffer_lastQueryTime : (discardBuffer s).lastQueryTime = s.lastQueryTime := rfl
@[simp] theorem discardBuffer_capDone : (discardBuffer s).capDone = s.capDone := rfl
@[simp] theorem discardBuffer_capturing : (discardBuffer s).capturing = s.capturing := rfl
@[simp] theorem discardBuffer_inited : (discardBuffer s).inited = s.inited := rfl
@[simp] theorem discardBuffer_lineDir : (discardBuffer s).lineDir = s.lineDir := rfl
@[simp] theorem discardBuffer_lineOut : (discardBuffer s).lineOut = s.lineOut := rfl
@[simp] theorem discardBuffer_buf : (discardBuffer s).buf = Memory.fill s.buf (discardedWords s.cfg s.discards s.buf) := rfl
@[simp] theorem discardBuffer_out : (discardBuffer s).out = s.out := rfl
@[simp] theorem discardBuffer_discards : (discardBuffer s).discards = s.discards + 1 := rfl

@[simp] theorem captureStop_cfg : (captureStop s).cfg = s.cfg := rfl
@[simp] theorem captureStop_moves : (captureStop s).moves = s.moves := rfl
@[simp] theorem captureStop_now : (captureStop s).now = s.now := rfl
@[simp] theorem captureStop_capOk : (captureStop s).capOk = s.capOk := rfl
@[simp] theorem captureStop_state : (captureStop s).state = s.state := rfl
@[simp] theorem captureStop_result : (captureStop s).result = s.result := rfl
@[simp] theorem captureStop_pin : (captureStop s).pin = s.pin := rfl
@[simp] theorem captureStop_maxTries : (captureStop s).maxTries = s.maxTries := rfl
@[simp] theorem captureStop_stateTime : (captureStop s).stateTime = s.stateTime := rfl
@[simp] theorem captureStop_lastQueryTime : (captureStop s).lastQueryTime = s.lastQueryTime := rfl
@[simp] theorem captureStop_capDone : (captureStop s).capDone = s.capDone := rfl
@[simp] theorem captureStop_capturing : (captureStop s).capturing = false := rfl
@[simp] theorem captureStop_inited : (captureStop s).inited = s.inited := rfl
@[simp] theorem captureStop_lineDir : (captureStop s).lineDir = s.lineDir := rfl
@[simp] theorem captureStop_lineOut : (captureStop s).lineOut = s.lineOut := rfl
@[simp] theorem captureStop_buf : (captureStop s).buf = Memory.fill s.buf (discardedWords s.cfg s.discards s.buf) := rfl
@[simp] theorem captureStop_out : (captureStop s).out = { s.out with calls := s.out.calls ++ [.captureStop] } := rfl
@[simp] theorem captureStop_discards : (captureStop s).discards = s.discards + 1 := rfl

@[simp] theorem raiseComplete_cfg (st : Status) : (raiseComplete st s).cfg = s.cfg := rfl
@[simp] theorem raiseComplete_moves (st : Status) : (raiseComplete st s).moves = s.moves := rfl
@[simp] theorem raiseComplete_now (st : Status) : (raiseComplete st s).now = s.now := rfl
@[simp] theorem raiseComplete_capOk (st : Status) : (raiseComplete st s).capOk = s.capOk := rfl
@[simp] theorem raiseComplete_state (st : Status) : (raiseComplete st s).state = .idle := rfl
@[simp] theorem raiseComplete_result (st : Status) : (raiseComplete st s).result = { s.result with status := st } := rfl
@[simp] theorem raiseComplete_pin (st : Status) : (raiseComplete st s).pin = s.pin := rfl
@[simp] theorem raiseComplete_maxTries (st : Status) : (raiseComplete st s).maxTries = s.maxTries := rfl
@[simp] theorem raiseComplete_stateTime (st : Status) : (raiseComplete st s).stateTime = s.stateTime := rfl
@[simp] theorem raiseComplete_lastQueryTime (st : Status) : (raiseComplete st s).lastQueryTime = s.now := rfl
@[simp] theorem raiseComplete_capDone (st : Status) : (raiseComplete st s).capDone = s.capDone := rfl
@[simp] theorem raiseComplete_capturing (st : Status) : (raiseComplete st s).capturing = s.capturing := rfl
@[simp] theorem raiseComplete_inited (st : Status) : (raiseComplete st s).inited = s.inited := rfl
@[simp] theorem raiseComplete_lineDir (st : Status) : (raiseComplete st s).lineDir = s.lineDir := rfl
@[simp] theorem raiseComplete_lineOut (st : Status) : (raiseComplete st s).lineOut = s.lineOut := rfl
@[simp] theorem raiseComplete_buf (st : Status) : (raiseComplete st s).buf = s.buf := rfl
@[simp] theorem raiseComplete_out (st : Status) : (raiseComplete st s).out = { s.out with completion := some { s.result with status := st } } := rfl
@[simp] theorem raiseComplete_discards (st : Status) : (raiseComplete st s).discards = s.discards := rfl

@[simp] theorem decodeOrchestration_cfg : (decodeOrchestration s).cfg = s.cfg := rfl
@[simp] theorem decodeOrchestration_moves : (decodeOrchestration s).moves = s.moves := rfl
@[simp] theorem decodeOrchestration_now : (decodeOrchestration s).now = s.now := rfl
@[simp] theorem decodeOrchestration_capOk : (decodeOrchestration s).capOk = s.capOk := rfl
@[simp] theorem decodeOrchestration_state : (decodeOrchestration s).state = s.state := rfl
@[simp] theorem decodeOrchestration_result : (decodeOrchestration s).result = { s.result with bytes := (decodeBuffer s).2 } := rfl
@[simp] theorem decodeOrchestration_pin : (decodeOrchestration s).pin = s.pin := rfl
@[simp] theorem decodeOrchestration_maxTries : (decodeOrchestration s).maxTries = s.maxTries := rfl
@[simp] theorem decodeOrchestration_stateTime : (decodeOrchestration s).stateTime = s.stateTime := rfl
@[simp] theorem decodeOrchestration_lastQueryTime : (decodeOrchestration s).lastQueryTime = s.lastQueryTime := rfl
@[simp] theorem decodeOrchestration_capDone : (decodeOrchestration s).capDone = s.capDone := rfl
@[simp] theorem decodeOrchestration_capturing : (decodeOrchestration s).capturing = false := rfl
@[simp] theorem decodeOrchestration_inited : (decodeOrchestration s).inited = s.inited := rfl
@[simp] theorem decodeOrchestration_lineDir : (decodeOrchestration s).lineDir = s.lineDir := rfl
@[simp] theorem decodeOrchestration_lineOut : (decodeOrchestration s).lineOut = s.lineOut := rfl
@[simp] theorem decodeOrchestration_buf : (decodeOrchestration s).buf = Memory.fill s.buf (discardedWords s.cfg s.discards s.buf) := rfl
@[simp] theorem decodeOrchestration_out : (decodeOrchestration s).out = { s.out with calls := s.out.calls ++ [.captureStop] } := rfl
@[simp] theorem decodeOrchestration_discards : (decodeOrchestration s).discards = s.discards + 1 := rfl

@[simp] theorem leaveSendStart_cfg : (leaveSendStart s).cfg = s.cfg := rfl
@[simp] theorem leaveSendStart_moves : (leaveSendStart s).moves = s.moves := rfl
@[simp] theorem leaveSendStart_now : (leaveSendStart s).now = s.now := rfl
@[simp] theorem leaveSendStart_capOk : (leaveSendStart s).capOk = s.capOk := rfl
@[simp] theorem leaveSendStart_state : (leaveSendStart s).state = s.state := rfl
@[simp] theorem leaveSendStart_result : (leaveSendStart s).result = { s.result with tries := s.result.tries + 1#8 } := rfl
@[simp] theorem leaveSendStart_pin : (leaveSendStart s).pin = s.pin := rfl
@[simp] theorem leaveSendStart_maxTries : (leaveSendStart s).maxTries = s.maxTries := rfl
@[simp] theorem leaveSendStart_stateTime : (leaveSendStart s).stateTime = s.stateTime := rfl
@[simp] theorem leaveSendStart_lastQueryTime : (leaveSendStart s).lastQueryTime = s.lastQueryTime := rfl
@[simp] theorem leaveSendStart_capDone : (leaveSendStart s).capDone = false := rfl
@[simp] theorem leaveSendStart_capturing : (leaveSendStart s).capturing = s.capturing := rfl
@[simp] theorem leaveSendStart_inited : (leaveSendStart s).inited = s.inited := rfl
@[simp] theorem leaveSendStart_lineDir : (leaveSendStart s).lineDir = .input := rfl
@[simp] theorem leaveSendStart_lineOut : (leaveSendStart s).lineOut = s.lineOut := rfl
@[simp] theorem leaveSendStart_buf : (leaveSendStart s).buf = s.buf := rfl
@[simp] theorem leaveSendStart_out : (leaveSendStart s).out = { s.out with calls := s.out.calls ++ [.gpioInput s.pin] ++ [.captureStart s.pin] } := rfl
@[simp] theorem leaveSendStart_discards : (leaveSendStart s).discards = s.discards := rfl

@[simp] theorem beginCommand_cfg (now : Time) (capOk : Bool) (rest : List Move) : (beginCommand now capOk rest s).cfg = s.cfg := rfl
@[simp] theorem beginCommand_moves (now : Time) (capOk : Bool) (rest : List Move) : (beginCommand now capOk rest s).moves = rest := rfl
@[simp] theorem beginCommand_now (now : Time) (capOk : Bool) (rest : List Move) : (beginCommand now capOk rest s).now = now := rfl
@[simp] theorem beginCommand_capOk (now : Time) (capOk : Bool) (rest : List Move) : (beginCommand now capOk rest s).capOk = capOk := rfl
@[simp] theorem beginCommand_state (now : Time) (capOk : Bool) (rest : List Move) : (beginCommand now capOk rest s).state = s.state := rfl
@[simp] theorem beginCommand_result (now : Time) (capOk : Bool) (rest : List Move) : (beginCommand now capOk rest s).result = s.result := rfl
@[simp] theorem beginCommand_pin (now : Time) (capOk : Bool) (rest : List Move) : (beginCommand now capOk rest s).pin = s.pin := rfl
@[simp] theorem beginCommand_maxTries (now : Time) (capOk : Bool) (rest : List Move) : (beginCommand now capOk rest s).maxTries = s.maxTries := rfl
@[simp] theorem beginCommand_stateTime (now : Time) (capOk : Bool) (rest : List Move) : (beginCommand now capOk rest s).stateTime = s.stateTime := rfl
@[simp] theorem beginCommand_lastQueryTime (now : Time) (capOk : Bool) (rest : List Move) : (beginCommand now capOk rest s).lastQueryTime = s.lastQueryTime := rfl
@[simp] theorem beginCommand_capDone (now : Time) (capOk : Bool) (rest : List Move) : (beginCommand now capOk rest s).capDone = s.capDone := rfl
@[simp] theorem beginCommand_capturing (now : Time) (capOk : Bool) (rest : List Move) : (beginCommand now capOk rest s).capturing = s.capturing := rfl
@[simp] theorem beginCommand_inited (now : Time) (capOk : Bool) (rest : List Move) : (beginCommand now capOk rest s).inited = s.inited := rfl
@[simp] theorem beginCommand_lineDir (now : Time) (capOk : Bool) (rest : List Move) : (beginCommand now capOk rest s).lineDir = s.lineDir := rfl
@[simp] theorem beginCommand_lineOut (now : Time) (capOk : Bool) (rest : List Move) : (beginCommand now capOk rest s).lineOut = s.lineOut := rfl
@[simp] theorem beginCommand_buf (now : Time) (capOk : Bool) (rest : List Move) : (beginCommand now capOk rest s).buf = s.buf := rfl
@[simp] theorem beginCommand_out (now : Time) (capOk : Bool) (rest : List Move) : (beginCommand now capOk rest s).out = .quiet := rfl
@[simp] theorem beginCommand_discards (now : Time) (capOk : Bool) (rest : List Move) : (beginCommand now capOk rest s).discards = s.discards := rfl

@[simp] theorem resetBlock_cfg : (resetBlock s).cfg = s.cfg := rfl
@[simp] theorem resetBlock_moves : (resetBlock s).moves = s.moves := rfl
@[simp] theorem resetBlock_now : (resetBlock s).now = s.now := rfl
@[simp] theorem resetBlock_capOk : (resetBlock s).capOk = s.capOk := rfl
@[simp] theorem resetBlock_state : (resetBlock s).state = .idle := rfl
@[simp] theorem resetBlock_result : (resetBlock s).result = Sample.cleared .dht22 := rfl
@[simp] theorem resetBlock_pin : (resetBlock s).pin = 0#8 := rfl
@[simp] theorem resetBlock_maxTries : (resetBlock s).maxTries = 4#8 := rfl
@[simp] theorem resetBlock_stateTime : (resetBlock s).stateTime = 0#32 := rfl
@[simp] theorem resetBlock_lastQueryTime : (resetBlock s).lastQueryTime = 0#32 := rfl
@[simp] theorem resetBlock_capDone : (resetBlock s).capDone = false := rfl
@[simp] theorem resetBlock_capturing : (resetBlock s).capturing = false := rfl
@[simp] theorem resetBlock_inited : (resetBlock s).inited = false := rfl
@[simp] theorem resetBlock_lineDir : (resetBlock s).lineDir = .input := rfl
@[simp] theorem resetBlock_lineOut : (resetBlock s).lineOut = .low := rfl
@[simp] theorem resetBlock_buf : (resetBlock s).buf = Memory.fill s.buf (discardedWords s.cfg s.discards s.buf) := rfl
@[simp] theorem resetBlock_out : (resetBlock s).out = { Outputs.quiet with calls := [.captureStop, .gpioInput s.pin] } := rfl
@[simp] theorem resetBlock_discards : (resetBlock s).discards = s.discards + 1 := rfl

@[simp] theorem answering_cfg (v : ResponseWord) : (State.answering s v).cfg = s.cfg := rfl
@[simp] theorem answering_moves (v : ResponseWord) : (State.answering s v).moves = s.moves := rfl
@[simp] theorem answering_now (v : ResponseWord) : (State.answering s v).now = s.now := rfl
@[simp] theorem answering_capOk (v : ResponseWord) : (State.answering s v).capOk = s.capOk := rfl
@[simp] theorem answering_state (v : ResponseWord) : (State.answering s v).state = s.state := rfl
@[simp] theorem answering_result (v : ResponseWord) : (State.answering s v).result = s.result := rfl
@[simp] theorem answering_pin (v : ResponseWord) : (State.answering s v).pin = s.pin := rfl
@[simp] theorem answering_maxTries (v : ResponseWord) : (State.answering s v).maxTries = s.maxTries := rfl
@[simp] theorem answering_stateTime (v : ResponseWord) : (State.answering s v).stateTime = s.stateTime := rfl
@[simp] theorem answering_lastQueryTime (v : ResponseWord) : (State.answering s v).lastQueryTime = s.lastQueryTime := rfl
@[simp] theorem answering_capDone (v : ResponseWord) : (State.answering s v).capDone = s.capDone := rfl
@[simp] theorem answering_capturing (v : ResponseWord) : (State.answering s v).capturing = s.capturing := rfl
@[simp] theorem answering_inited (v : ResponseWord) : (State.answering s v).inited = s.inited := rfl
@[simp] theorem answering_lineDir (v : ResponseWord) : (State.answering s v).lineDir = s.lineDir := rfl
@[simp] theorem answering_lineOut (v : ResponseWord) : (State.answering s v).lineOut = s.lineOut := rfl
@[simp] theorem answering_buf (v : ResponseWord) : (State.answering s v).buf = s.buf := rfl
@[simp] theorem answering_out (v : ResponseWord) : (State.answering s v).out = { s.out with rsp := some v } := rfl
@[simp] theorem answering_discards (v : ResponseWord) : (State.answering s v).discards = s.discards := rfl

@[simp] theorem calling_cfg (cs : List ExternalCall) : (State.calling s cs).cfg = s.cfg := rfl
@[simp] theorem calling_moves (cs : List ExternalCall) : (State.calling s cs).moves = s.moves := rfl
@[simp] theorem calling_now (cs : List ExternalCall) : (State.calling s cs).now = s.now := rfl
@[simp] theorem calling_capOk (cs : List ExternalCall) : (State.calling s cs).capOk = s.capOk := rfl
@[simp] theorem calling_state (cs : List ExternalCall) : (State.calling s cs).state = s.state := rfl
@[simp] theorem calling_result (cs : List ExternalCall) : (State.calling s cs).result = s.result := rfl
@[simp] theorem calling_pin (cs : List ExternalCall) : (State.calling s cs).pin = s.pin := rfl
@[simp] theorem calling_maxTries (cs : List ExternalCall) : (State.calling s cs).maxTries = s.maxTries := rfl
@[simp] theorem calling_stateTime (cs : List ExternalCall) : (State.calling s cs).stateTime = s.stateTime := rfl
@[simp] theorem calling_lastQueryTime (cs : List ExternalCall) : (State.calling s cs).lastQueryTime = s.lastQueryTime := rfl
@[simp] theorem calling_capDone (cs : List ExternalCall) : (State.calling s cs).capDone = s.capDone := rfl
@[simp] theorem calling_capturing (cs : List ExternalCall) : (State.calling s cs).capturing = s.capturing := rfl
@[simp] theorem calling_inited (cs : List ExternalCall) : (State.calling s cs).inited = s.inited := rfl
@[simp] theorem calling_lineDir (cs : List ExternalCall) : (State.calling s cs).lineDir = s.lineDir := rfl
@[simp] theorem calling_lineOut (cs : List ExternalCall) : (State.calling s cs).lineOut = s.lineOut := rfl
@[simp] theorem calling_buf (cs : List ExternalCall) : (State.calling s cs).buf = s.buf := rfl
@[simp] theorem calling_out (cs : List ExternalCall) : (State.calling s cs).out = { s.out with calls := s.out.calls ++ cs } := rfl
@[simp] theorem calling_discards (cs : List ExternalCall) : (State.calling s cs).discards = s.discards := rfl

@[simp] theorem discarding_cfg (m : Memory) (n : Nat) : (State.discarding s m n).cfg = s.cfg := rfl
@[simp] theorem discarding_moves (m : Memory) (n : Nat) : (State.discarding s m n).moves = s.moves := rfl
@[simp] theorem discarding_now (m : Memory) (n : Nat) : (State.discarding s m n).now = s.now := rfl
@[simp] theorem discarding_capOk (m : Memory) (n : Nat) : (State.discarding s m n).capOk = s.capOk := rfl
@[simp] theorem discarding_state (m : Memory) (n : Nat) : (State.discarding s m n).state = s.state := rfl
@[simp] theorem discarding_result (m : Memory) (n : Nat) : (State.discarding s m n).result = s.result := rfl
@[simp] theorem discarding_pin (m : Memory) (n : Nat) : (State.discarding s m n).pin = s.pin := rfl
@[simp] theorem discarding_maxTries (m : Memory) (n : Nat) : (State.discarding s m n).maxTries = s.maxTries := rfl
@[simp] theorem discarding_stateTime (m : Memory) (n : Nat) : (State.discarding s m n).stateTime = s.stateTime := rfl
@[simp] theorem discarding_lastQueryTime (m : Memory) (n : Nat) : (State.discarding s m n).lastQueryTime = s.lastQueryTime := rfl
@[simp] theorem discarding_capDone (m : Memory) (n : Nat) : (State.discarding s m n).capDone = s.capDone := rfl
@[simp] theorem discarding_capturing (m : Memory) (n : Nat) : (State.discarding s m n).capturing = s.capturing := rfl
@[simp] theorem discarding_inited (m : Memory) (n : Nat) : (State.discarding s m n).inited = s.inited := rfl
@[simp] theorem discarding_lineDir (m : Memory) (n : Nat) : (State.discarding s m n).lineDir = s.lineDir := rfl
@[simp] theorem discarding_lineOut (m : Memory) (n : Nat) : (State.discarding s m n).lineOut = s.lineOut := rfl
@[simp] theorem discarding_buf (m : Memory) (n : Nat) : (State.discarding s m n).buf = m := rfl
@[simp] theorem discarding_out (m : Memory) (n : Nat) : (State.discarding s m n).out = s.out := rfl
@[simp] theorem discarding_discards (m : Memory) (n : Nat) : (State.discarding s m n).discards = n := rfl

theorem respond_eq_answering (v : ResponseWord) : respond v s = s.answering v := rfl

theorem captureStart_eq_calling : captureStart s = s.calling [.captureStart s.pin] := rfl

@[simp] theorem profile_eq : s.profile = s.result.profile := rfl

end Sys2Proof.Machine
end

