-- ==== Sys2Proof/Laws/Memory.lean ====
section
/-! SUPPORT. The laws of the raw capture buffer: read after write, and that every write keeps the canonical form. -/

namespace Sys2Proof.Machine

@[simp] theorem read_nil (w : Nat) : Memory.read [] w = unwrittenWord := rfl

@[simp] theorem read_cell (a v : Nat) (m : Memory) (w : Nat) :
    Memory.read ((a, v) :: m) w = if w = a then v else Memory.read m w := rfl

/-- A word no cell lists reads as unwritten. -/
theorem read_of_unlisted {m : Memory} {w : Nat} (h : ∀ c ∈ m, c.1 ≠ w) : Memory.read m w = unwrittenWord := by
  induction m with
  | nil => rfl
  | cons c m ih =>
    obtain ⟨a, v⟩ := c
    have ha : w ≠ a := fun e => h (a, v) (by simp) e.symm
    simp only [read_cell, ha, if_false]
    exact ih fun c hc => h c (by simp [hc])

theorem read_cons_same {w v : Nat} {m : Memory} (h : ∀ c ∈ m, c.1 ≠ w) : Memory.read (Memory.cons w v m) w = v := by
  unfold Memory.cons
  split
  · rename_i hv; rw [read_of_unlisted h, hv]
  · simp

theorem read_cons_other {w w' v : Nat} {m : Memory} (h : w' ≠ w) :
    Memory.read (Memory.cons w v m) w' = Memory.read m w' := by
  unfold Memory.cons
  split <;> simp [h]

theorem wf_tail {c : Cell} {m : Memory} (h : Memory.wf (c :: m)) : Memory.wf m :=
  ⟨(List.pairwise_cons.mp h.1).2, fun d hd => h.2 d (by simp [hd])⟩

theorem wf_head_lt {c : Cell} {m : Memory} (h : Memory.wf (c :: m)) : ∀ d ∈ m, c.1 < d.1 :=
  (List.pairwise_cons.mp h.1).1

/-- Reading the word just written. -/
theorem read_write_same {m : Memory} (h : Memory.wf m) (w v : Nat) : Memory.read (Memory.write m w v) w = v := by
  induction m with
  | nil => exact read_cons_same (by simp)
  | cons c m ih =>
    obtain ⟨a, x⟩ := c
    have hlt := wf_head_lt h
    unfold Memory.write
    split
    · rename_i hwa
      refine read_cons_same fun d hd => ?_
      rcases List.mem_cons.mp hd with rfl | hd
      · exact Nat.ne_of_gt hwa
      · exact Nat.ne_of_gt (Nat.lt_trans hwa (hlt d hd))
    · split
      · rename_i _ hwa
        subst hwa
        exact read_cons_same fun d hd => Nat.ne_of_gt (hlt d hd)
      · rename_i _ hwa
        simp only [read_cell, hwa, if_false]
        exact ih (wf_tail h)

/-- A write leaves every other word alone. -/
theorem read_write_other {m : Memory} {w w' : Nat} (v : Nat) (h : w' ≠ w) :
    Memory.read (Memory.write m w v) w' = Memory.read m w' := by
  induction m with
  | nil => exact read_cons_other h
  | cons c m ih =>
    obtain ⟨a, x⟩ := c
    unfold Memory.write
    split
    · exact read_cons_other h
    · split
      · rename_i _ hwa
        subst hwa
        simp [read_cons_other h, h]
      · simp [ih]

theorem mem_cons_cases {c : Cell} {w v : Nat} {m : Memory} (h : c ∈ Memory.cons w v m) :
    (c = (w, v) ∧ v ≠ unwrittenWord) ∨ c ∈ m := by
  unfold Memory.cons at h
  split at h
  · exact .inr h
  · rename_i hv
    rcases List.mem_cons.mp h with rfl | h
    · exact .inl ⟨rfl, hv⟩
    · exact .inr h

/-- A cell after a write is the one written or one that stood before. -/
theorem mem_write_cases {c : Cell} {m : Memory} {w v : Nat} (h : c ∈ Memory.write m w v) :
    (c = (w, v) ∧ v ≠ unwrittenWord) ∨ c ∈ m := by
  induction m with
  | nil => exact mem_cons_cases h
  | cons d m ih =>
    obtain ⟨a, x⟩ := d
    unfold Memory.write at h
    split at h
    · exact mem_cons_cases h
    · split at h
      · exact (mem_cons_cases h).imp_right (by simp +contextual)
      · rcases List.mem_cons.mp h with rfl | h
        · exact .inr (by simp)
        · exact (ih h).imp_right (by simp +contextual)

theorem pairwise_cons_cell {w v : Nat} {m : Memory} (h : m.Pairwise (fun a b => a.1 < b.1)) (hw : ∀ c ∈ m, w < c.1) :
    (Memory.cons w v m).Pairwise (fun a b => a.1 < b.1) := by
  unfold Memory.cons
  split
  · exact h
  · exact List.pairwise_cons.mpr ⟨hw, h⟩

theorem wf_write {m : Memory} (h : Memory.wf m) (w v : Nat) : Memory.wf (Memory.write m w v) := by
  refine ⟨?_, fun c hc => ?_⟩
  · induction m with
    | nil => exact pairwise_cons_cell List.Pairwise.nil (by simp)
    | cons d m ih =>
      obtain ⟨a, x⟩ := d
      have hlt := wf_head_lt h
      have hm := (wf_tail h).1
      unfold Memory.write
      split
      · rename_i hwa
        refine pairwise_cons_cell h.1 fun c hc => ?_
        rcases List.mem_cons.mp hc with rfl | hc
        · exact hwa
        · exact Nat.lt_trans hwa (hlt c hc)
      · split
        · rename_i _ hwa
          subst hwa
          exact pairwise_cons_cell hm hlt
        · rename_i h1 h2
          refine List.pairwise_cons.mpr ⟨fun c hc => ?_, ih (wf_tail h)⟩
          rcases mem_write_cases hc with ⟨rfl, -⟩ | hc
          · show a < w
            omega
          · exact hlt c hc
  · rcases mem_write_cases hc with ⟨rfl, hv⟩ | hc
    · exact hv
    · exact h.2 c hc

theorem fits_write {p : Params} {m : Memory} {w v : Nat} (h : Memory.fits p m) (hw : w < p.bufWords)
    (hv : v < 2 ^ p.wordBits) : Memory.fits p (Memory.write m w v) := by
  intro c hc
  rcases mem_write_cases hc with ⟨rfl, -⟩ | hc
  · exact ⟨hw, hv⟩
  · exact h c hc

theorem wf_fillFrom {m : Memory} (h : Memory.wf m) (i : Nat) (ws : List Nat) : Memory.wf (Memory.fillFrom m i ws) := by
  induction ws generalizing m i with
  | nil => exact h
  | cons v ws ih => exact ih (wf_write h i v) (i + 1)

theorem fits_fillFrom {p : Params} {m : Memory} {i : Nat} {ws : List Nat} (h : Memory.fits p m)
    (hi : i + ws.length ≤ p.bufWords) (hv : ∀ v ∈ ws, v < 2 ^ p.wordBits) :
    Memory.fits p (Memory.fillFrom m i ws) := by
  induction ws generalizing m i with
  | nil => exact h
  | cons v ws ih =>
    simp only [List.length_cons] at hi
    exact ih (fits_write h (by omega) (hv v (by simp))) (by omega) fun x hx => hv x (by simp [hx])

/-- A word below the filled ones reads as before. -/
theorem read_fillFrom_below {m : Memory} {i w : Nat} (ws : List Nat) (h : w < i) :
    Memory.read (Memory.fillFrom m i ws) w = Memory.read m w := by
  induction ws generalizing m i with
  | nil => rfl
  | cons v ws ih => exact (ih (by omega)).trans (read_write_other v (by omega))

/-- A word above the filled ones reads as before. -/
theorem read_fillFrom_above {m : Memory} {i w : Nat} (ws : List Nat) (h : i + ws.length ≤ w) :
    Memory.read (Memory.fillFrom m i ws) w = Memory.read m w := by
  induction ws generalizing m i with
  | nil => rfl
  | cons v ws ih =>
    simp only [List.length_cons] at h
    exact (ih (by omega)).trans (read_write_other v (by omega))

/-- A filled word reads as the word written there. -/
theorem read_fillFrom_inside {m : Memory} (hm : Memory.wf m) {i j : Nat} {ws : List Nat} (h : j < ws.length) :
    Memory.read (Memory.fillFrom m i ws) (i + j) = ws[j] := by
  induction ws generalizing m i j with
  | nil => simp at h
  | cons v ws ih =>
    cases j with
    | zero => exact (read_fillFrom_below ws (by omega)).trans (read_write_same hm i v)
    | succ j =>
      have hj : j < ws.length := by simpa using h
      have := ih (wf_write hm i v) (i := i + 1) hj
      rw [show i + (j + 1) = i + 1 + j by omega]
      simpa [Memory.fillFrom] using this

theorem wf_fill {m : Memory} (h : Memory.wf m) (ws : List Nat) : Memory.wf (Memory.fill m ws) := wf_fillFrom h 0 ws

theorem fits_fill {p : Params} {m : Memory} {ws : List Nat} (h : Memory.fits p m) (hw : captureFits p ws = true) :
    Memory.fits p (Memory.fill m ws) := by
  obtain ⟨hlen, hv⟩ := captureFits_iff.mp hw
  exact fits_fillFrom h (by omega) hv

/-- The words of a buffer given up are words of the buffer, whatever the free values are (20_memory R61, R77). -/
theorem discardedWords_fit (p : Params) (n : Nat) (m : Memory) : captureFits p (discardedWords p n m) = true := by
  rw [captureFits_iff]
  refine ⟨by simp [discardedWords], fun v hv => ?_⟩
  obtain ⟨w, -, rfl⟩ := List.mem_map.mp hv
  exact Nat.mod_lt _ (Nat.two_pow_pos _)

theorem wf_discardBuffer {s : State} (h : Memory.wf s.buf) : Memory.wf (discardBuffer s).buf := wf_fill h _

theorem fits_discardBuffer {s : State} (h : Memory.fits s.cfg s.buf) : Memory.fits s.cfg (discardBuffer s).buf :=
  fits_fill h (discardedWords_fit _ _ _)

theorem read_fill {m : Memory} (hm : Memory.wf m) {ws : List Nat} {j : Nat} (h : j < ws.length) :
    Memory.read (Memory.fill m ws) j = ws[j] := by
  simpa [Memory.fill] using read_fillFrom_inside hm (i := 0) h

theorem reset_buf_wf : Memory.wf State.reset.buf := ⟨List.Pairwise.nil, by simp [State.reset]⟩

theorem samples_length (p : Params) (m : Memory) : (samples p m).length = p.nSamples := by simp [samples]

theorem samples_getElem {p : Params} {m : Memory} {k : Nat} (h : k < (samples p m).length) :
    (samples p m)[k] = sampleBit p m k := by simp [samples]

end Sys2Proof.Machine
end

