-- ==== Sys2Proof/Laws/Step.lean ====
section
/-! SUPPORT. What an operation, a transition of SERVICE and a step can do, said once. Later proofs cite these and unfold
neither `exec` nor `step`. -/

namespace Sys2Proof.Machine

/-- The commands that only answer: the two queries and the ten accessors (40_host_commands R115 to R126). -/
def isQuery : Instr → Bool
  | .canStart | .getResult | .isSuccess | .isBusy | .isError | .isTooManyRetries | .getTempC | .getTempF
  | .getHumidity | .getDewPointC | .getDewPointF | .getTries => true
  | .init | .request _ _ | .service | .setMaxTries _ | .svcIdle | .startWait | .startGo | .sendStartWait
  | .sendStartGo | .sendStartFail | .samplingWait | .samplingTimeout | .samplingRetry | .samplingExhausted
  | .samplingSuccess | .reqAccept _ _ | .reqBusy _ => false

/-- The response a query gives. -/
def queryResponse (s : State) : Instr → ResponseWord
  | .canStart => truthResponse (decide (s.state = .idle))
  | .getResult => recordResponse s.result
  | .isSuccess => truthResponse s.result.isSuccess
  | .isBusy => truthResponse s.result.isBusy
  | .isError => truthResponse s.result.isError
  | .isTooManyRetries => truthResponse s.result.isTooManyRetries
  | .getTempC => valueResponse s.result.isSuccess s.result.t10
  | .getTempF => valueResponse s.result.isSuccess s.result.tf100
  | .getHumidity => valueResponse s.result.isSuccess s.result.h10
  | .getDewPointC => valueResponse s.result.isSuccess s.result.dp10
  | .getDewPointF => valueResponse s.result.isSuccess s.result.dpf100
  | .getTries => countResponse s.result.tries
  | _ => noResponse

theorem exec_query {i : Instr} (h : isQuery i = true) (s : State) :
    exec i s = .next (respond (queryResponse s i) s) := by
  cases i <;> first | exact absurd h Bool.false_ne_true | rfl

/-- Every operation answers a next state: the block has no fault and refuses no operation (60_exceptions R242). -/
theorem exec_answers_next (i : Instr) (s : State) : ∃ t, exec i s = .next t := by
  cases i <;> exact ⟨_, rfl⟩

theorem exec_transition (tr : Transition) (s : State) : exec tr.toInstr s = .next (takeTransition tr s) := by
  cases tr <;> rfl

theorem exec_service (s : State) :
    exec .service s = .next (respond noResponse (takeTransition (selector s).transition s)) := rfl

/-- Under which conditions each transition is the selected one (41 R155, 30_encoding R95). -/
theorem selected_cases (s : State) :
    (s.state = .idle ∧ (selector s).transition = .svcIdle) ∨
    (s.state = .start ∧ gateOpen s = false ∧ (selector s).transition = .startWait) ∨
    (s.state = .start ∧ gateOpen s = true ∧ (selector s).transition = .startGo) ∨
    (s.state = .sendStart ∧ pulseDone s = false ∧ (selector s).transition = .sendStartWait) ∨
    (s.state = .sendStart ∧ pulseDone s = true ∧ s.capOk = true ∧ (selector s).transition = .sendStartGo) ∨
    (s.state = .sendStart ∧ pulseDone s = true ∧ s.capOk = false ∧ (selector s).transition = .sendStartFail) ∨
    (s.state = .sampling ∧ s.capDone = false ∧ waitExpired s = false ∧ (selector s).transition = .samplingWait) ∨
    (s.state = .sampling ∧ s.capDone = false ∧ waitExpired s = true ∧ (selector s).transition = .samplingTimeout) ∨
    (s.state = .sampling ∧ s.capDone = true ∧ frameValid s = false ∧ budgetSpent s = false ∧
      (selector s).transition = .samplingRetry) ∨
    (s.state = .sampling ∧ s.capDone = true ∧ frameValid s = false ∧ budgetSpent s = true ∧
      (selector s).transition = .samplingExhausted) ∨
    (s.state = .sampling ∧ s.capDone = true ∧ frameValid s = true ∧ (selector s).transition = .samplingSuccess) := by
  unfold Sel.transition selector
  cases s.state
  · simp
  · cases gateOpen s <;> simp
  · cases pulseDone s <;> cases s.capOk <;> simp
  · cases s.capDone <;> cases waitExpired s <;> cases frameValid s <;> cases budgetSpent s <;> simp

theorem decodeAccessor_isQuery {sel : BitVec 4} {i : Instr} (h : decodeAccessor sel = .ok i) : isQuery i = true := by
  unfold decodeAccessor at h
  repeat' split at h
  all_goals first | (cases h; rfl) | cases h

theorem whenZero_ok {n : Nat} {z : BitVec n} {op : BitVec 4} {r : Except DecodeError Instr} {i : Instr}
    (h : whenZero z op r = .ok i) : z = 0#n ∧ r = .ok i := by
  unfold whenZero at h
  split at h
  · exact ⟨‹_›, h⟩
  · cases h

/-- What a command word can decode to. -/
theorem decodeCommand_cases {w : CommandWord} {i : Instr} (h : decodeCommand w = .ok i) :
    i = .init ∨ (∃ pin p, i = .request pin p) ∨ i = .service ∨ (∃ n, i = .setMaxTries n) ∨ isQuery i = true := by
  simp only [decodeCommand] at h
  split at h
  · cases (whenZero_ok h).2; exact .inl rfl
  split at h
  · cases (whenZero_ok h).2; exact .inr (.inl ⟨_, _, rfl⟩)
  split at h
  · cases (whenZero_ok h).2; exact .inr (.inr (.inl rfl))
  split at h
  · cases (whenZero_ok h).2; exact .inr (.inr (.inr (.inl ⟨_, rfl⟩)))
  split at h
  · cases (whenZero_ok h).2; exact .inr (.inr (.inr (.inr rfl)))
  split at h
  · cases (whenZero_ok h).2; exact .inr (.inr (.inr (.inr rfl)))
  split at h
  · exact .inr (.inr (.inr (.inr (decodeAccessor_isQuery (whenZero_ok h).2))))
  · cases h

/-- What a host command can do. -/
theorem command_cases {w : CommandWord} {i : Instr} {s t : State} (hd : decodeCommand w = .ok i)
    (h : exec i s = .next t) :
    (i = .init ∧ t = respond noResponse { s with inited := true }) ∨
    (∃ pin p, i = .request pin p ∧ s.state = .idle ∧ t = respond noResponse (reqAccept pin p s)) ∨
    (∃ pin p, i = .request pin p ∧ s.state ≠ .idle ∧ t = respond noResponse (reqBusy p s)) ∨
    (i = .service ∧ t = respond noResponse (takeTransition (selector s).transition s)) ∨
    (∃ n, i = .setMaxTries n ∧ t = respond noResponse { s with maxTries := n }) ∨
    (isQuery i = true ∧ t = respond (queryResponse s i) s) := by
  rcases decodeCommand_cases hd with rfl | ⟨pin, p, rfl⟩ | rfl | ⟨n, rfl⟩ | hq
  · cases h; exact .inl ⟨rfl, rfl⟩
  · by_cases hs : s.state = .idle
    · simp only [exec, execRequest, hs, if_true] at h
      cases h; exact .inr (.inl ⟨pin, p, rfl, hs, rfl⟩)
    · simp only [exec, execRequest, hs, if_false] at h
      cases h; exact .inr (.inr (.inl ⟨pin, p, rfl, hs, rfl⟩))
  · cases h; exact .inr (.inr (.inr (.inl ⟨rfl, rfl⟩)))
  · cases h; exact .inr (.inr (.inr (.inr (.inl ⟨n, rfl, rfl⟩))))
  · rw [exec_query hq] at h
    cases h; exact .inr (.inr (.inr (.inr (.inr ⟨hq, rfl⟩))))

/-- What a step can do: nothing to come, a command with a meaning, a reserved word, the capture peripheral, reset. -/
theorem step_cases {s t : State} (h : step s = .next t) :
    (s.moves = [] ∧ t = s) ∨
    (∃ w now capOk rest i, s.moves = .command w now capOk :: rest ∧ decodeCommand w = .ok i ∧
      exec i (beginCommand now capOk rest s) = .next t) ∨
    (∃ w now capOk rest e, s.moves = .command w now capOk :: rest ∧ decodeCommand w = .error e ∧
      reservedCommand (beginCommand now capOk rest s) = .next t) ∨
    (∃ words rest, s.moves = .capture words :: rest ∧ s.captureEnabled = true ∧ captureFits s.cfg words = true ∧
      t = { s with moves := rest, buf := Memory.fill s.buf words, capDone := true, out := .quiet }) ∨
    (∃ rest, s.moves = .reset :: rest ∧ t = resetBlock { s with moves := rest }) := by
  unfold step at h
  split at h
  · rename_i hm; cases h; exact .inl ⟨hm, rfl⟩
  · rename_i w now capOk rest hm
    unfold runCommand at h
    split at h
    · rename_i i hi; exact .inr (.inl ⟨w, now, capOk, rest, i, hm, hi, h⟩)
    · rename_i e he; exact .inr (.inr (.inl ⟨w, now, capOk, rest, e, hm, he, h⟩))
  · rename_i words rest hm
    unfold captureComplete at h
    split at h
    · rename_i he
      split at h
      · rename_i hf; cases h
        exact .inr (.inr (.inr (.inl ⟨words, rest, hm, he, hf, rfl⟩)))
      · cases h
    · cases h
  · rename_i rest hm; cases h; exact .inr (.inr (.inr (.inr ⟨rest, hm, rfl⟩)))

/-- A step on a command word with a meaning. -/
theorem step_command {s : State} {w : CommandWord} {now : Time} {capOk : Bool} {rest : List Move} {i : Instr}
    (hm : s.moves = .command w now capOk :: rest) (hd : decodeCommand w = .ok i) :
    step s = exec i (beginCommand now capOk rest s) := by
  unfold step; rw [hm]; simp [runCommand, hd]

theorem captureEnabled_iff {s : State} :
    s.captureEnabled = true ↔ s.capturing = true ∧ s.capDone = false ∧ s.inited = true := by
  simp [State.captureEnabled, and_assoc]

/-- The four ways an acquisition ends carry the stored Sample, stamp the time and return to Idle (60_exceptions R238). -/
theorem raiseComplete_emits_stored (st : Status) (s : State) :
    (raiseComplete st s).out.completion = some (raiseComplete st s).result := rfl

end Sys2Proof.Machine
end

