-- ==== Sys2Proof/Laws/Moves.lean ====
section
/-! SUPPORT. What a step can do, in the words of Sys2Proof/Safety.lean: the next command, a step that is no reset, a SERVICE. -/

namespace Sys2Proof.Machine

/-- There is one next command. -/
theorem nextIs_unique {s : State} {i i' : Instr} {now now' : Time} {ok ok' : Bool} {rest rest' : List Move}
    (h : s.nextIs i now ok rest) (h' : s.nextIs i' now' ok' rest') :
    i' = i ∧ now' = now ∧ ok' = ok ∧ rest' = rest := by
  obtain ⟨w, hm, hd⟩ := h
  obtain ⟨w', hm', hd'⟩ := h'
  rw [hm] at hm'; cases hm'
  rw [hd] at hd'; cases hd'
  exact ⟨rfl, rfl, rfl, rfl⟩

/-- A command is no reset. -/
theorem nextIsCommand_not_reset {s : State} (h : s.nextIsCommand) : ¬s.nextIsReset := by
  rintro ⟨r, hr⟩
  obtain ⟨w, now, ok, rest, hm⟩ := h
  rw [hm] at hr; cases hr

/-- A step on a SERVICE takes the selected transition and answers 0. -/
theorem step_service {s t : State} {now : Time} {ok : Bool} {rest : List Move} (hn : s.nextIs .service now ok rest)
    (h : step s = .next t) :
    t = respond noResponse (takeTransition (selector (beginCommand now ok rest s)).transition
      (beginCommand now ok rest s)) := by
  obtain ⟨w, hm, hd⟩ := hn
  rw [step_command hm hd, exec_service] at h
  cases h; rfl

/-- What a step that is no reset can do. -/
theorem step_cases_not_reset {s t : State} (hr : ¬s.nextIsReset) (h : step s = .next t) :
    (s.moves = [] ∧ t = s) ∨
    (∃ w now ok rest i, s.moves = .command w now ok :: rest ∧ decodeCommand w = .ok i ∧ s.nextIs i now ok rest ∧
      exec i (beginCommand now ok rest s) = .next t) ∨
    (∃ w now ok rest, s.moves = .command w now ok :: rest ∧
      t = { s with moves := rest, now := now, capOk := ok, out := ⟨some 0#64, true, none, []⟩ }) ∨
    (∃ words rest, s.moves = .capture words :: rest ∧ s.captureEnabled = true ∧ captureFits s.cfg words = true ∧
      t = { s with moves := rest, buf := Memory.fill s.buf words, capDone := true, out := .quiet }) := by
  rcases step_cases h with h0 | ⟨w, now, ok, rest, i, hm, hd, he⟩ | ⟨w, now, ok, rest, e, hm, hd, he⟩ |
    ⟨words, rest, hm, hen, hf, rfl⟩ | ⟨rest, hm, rfl⟩
  · exact .inl h0
  · exact .inr (.inl ⟨w, now, ok, rest, i, hm, hd, ⟨w, hm, hd⟩, he⟩)
  · cases he; exact .inr (.inr (.inl ⟨w, now, ok, rest, hm, rfl⟩))
  · exact .inr (.inr (.inr ⟨words, rest, hm, hen, hf, rfl⟩))
  · exact absurd ⟨rest, hm⟩ hr

/-- The invariant does not look at the moves, the inputs or the outputs. -/
theorem inv_of_same_registers {s : State} (h : Inv s) (moves : List Move) (now : Time) (ok : Bool) (out : Outputs) :
    Inv { s with moves := moves, now := now, capOk := ok, out := out } :=
  ⟨h.paramsOk, h.bufCanonical, h.bufFits, h.capturingInSampling, h.samplingCaptures, h.samplingTried, h.idleTried, h.inFlightError,
    h.lineDriven, h.doneInited, h.successValid, h.exhaustedTried, h.neverBusy, h.lineNeverHigh, h.triesBelowEnd⟩

end Sys2Proof.Machine
end

