-- ==== Sys2Proof/Laws/PerInstr.lean ====
section
/-! SUPPORT. The per-instruction family `TableRows`: each operation's encoding matches its own row of the opcode table, and
every word of the row's format that matches the row decodes to an operation of that row. -/

namespace Sys2Proof.Laws.TableRows

/-- The encoding of `i` fits the row of `i`, and each word that fits the row decodes to an operation of that row. -/
def Statement (i : Instr) : Prop :=
  (encode i).fits i.row = true ∧ ∀ w : OpWord, w.fits i.row = true → (decode w).map Instr.row = .ok i.row

/-- A row with all sixteen bits fixed. -/
theorem exact_row {i : Instr} {code : BitVec 16} (he : encode i = .cmd code) (hr : i.row = .cmd code 0xFFFF#16)
    (hd : decodeCommand code = .ok i) : Statement i := by
  have all_ones : ∀ w : BitVec 16, w &&& 0xFFFF#16 = w := fun w => BitVec.and_allOnes
  refine ⟨by rw [he, hr]; simp [OpWord.fits, all_ones], fun w hw => ?_⟩
  rw [hr] at hw
  cases w with
  | cmd w =>
    have : w = code := by simpa [OpWord.fits, all_ones] using hw
    subst this
    simp [decode, hd, Except.map]
  | sel w => simp [OpWord.fits] at hw
  | rsel a b c => simp [OpWord.fits] at hw

/-- A row of selector words: checked on all 512. -/
theorem selector_row {i : Instr} {code mask : BitVec 9} (he : encode i = .sel code) (hr : i.row = .sel code mask)
    (hm : code &&& mask = code)
    (hd : ∀ w : BitVec 9, w &&& mask = code → (decodeSelector w).row = .sel code mask) : Statement i := by
  refine ⟨by rw [he, hr]; simp [OpWord.fits, hm], fun w hw => ?_⟩
  rw [hr] at hw ⊢
  cases w with
  | sel w => simpa [decode, Except.map] using hd w (by simpa [OpWord.fits] using hw)
  | cmd w => simp [OpWord.fits] at hw
  | rsel a b c => simp [OpWord.fits] at hw

theorem init : Statement .init := exact_row rfl rfl (by decide)
theorem service : Statement .service := exact_row rfl rfl (by decide)
theorem canStart : Statement .canStart := exact_row rfl rfl (by decide)
theorem getResult : Statement .getResult := exact_row rfl rfl (by decide)
theorem isSuccess : Statement .isSuccess := exact_row rfl rfl (by decide)
theorem isBusy : Statement .isBusy := exact_row rfl rfl (by decide)
theorem isError : Statement .isError := exact_row rfl rfl (by decide)
theorem isTooManyRetries : Statement .isTooManyRetries := exact_row rfl rfl (by decide)
theorem getTempC : Statement .getTempC := exact_row rfl rfl (by decide)
theorem getTempF : Statement .getTempF := exact_row rfl rfl (by decide)
theorem getHumidity : Statement .getHumidity := exact_row rfl rfl (by decide)
theorem getDewPointC : Statement .getDewPointC := exact_row rfl rfl (by decide)
theorem getDewPointF : Statement .getDewPointF := exact_row rfl rfl (by decide)
theorem getTries : Statement .getTries := exact_row rfl rfl (by decide)

/-- The fixed high bits of a word that matches a mask of its top bits. -/
theorem getLsbD_of_masked {w mask code : BitVec 16} (h : w &&& mask = code) (k : Nat) (hk : mask.getLsbD k = true) :
    w.getLsbD k = code.getLsbD k := by
  rw [← h, BitVec.getLsbD_and, hk, Bool.and_true]

theorem request (pin : Byte) (profile : Profile) : Statement (.request pin profile) := by
  refine ⟨?_, fun w hw => ?_⟩
  · have bits : (0x2#4 ++ 0#3 ++ profile.code ++ pin : BitVec 16) &&& 0xFE00#16 = 0x2000#16 := by
      cases profile <;> · ext k hk; simp only [Profile.code]; revert k; decide +revert
    simpa [encode, Instr.row, OpWord.fits] using bits
  · cases w with
    | cmd w =>
      have hm : w &&& 0xFE00#16 = 0x2000#16 := by simpa [Instr.row, OpWord.fits] using hw
      have top : w.extractLsb' 12 4 = 0x2#4 := by
        ext k hk
        have := getLsbD_of_masked hm (12 + k) (by revert k; decide)
        rw [BitVec.getElem_extractLsb', this]
        clear this; revert k; decide
      have zero : w.extractLsb' 9 3 = 0#3 := by
        ext k hk
        have := getLsbD_of_masked hm (9 + k) (by revert k; decide)
        rw [BitVec.getElem_extractLsb', this]
        clear this; revert k; decide
      simp [decode, decodeCommand, top, zero, whenZero, Except.map, Instr.row]
    | sel w => simp [Instr.row, OpWord.fits] at hw
    | rsel a b c => simp [Instr.row, OpWord.fits] at hw

theorem setMaxTries (n : Byte) : Statement (.setMaxTries n) := by
  refine ⟨?_, fun w hw => ?_⟩
  · have bits : (0x4#4 ++ 0#4 ++ n : BitVec 16) &&& 0xFF00#16 = 0x4000#16 := by
      revert n; decide
    simpa [encode, Instr.row, OpWord.fits] using bits
  · cases w with
    | cmd w =>
      have hm : w &&& 0xFF00#16 = 0x4000#16 := by simpa [Instr.row, OpWord.fits] using hw
      have top : w.extractLsb' 12 4 = 0x4#4 := by
        ext k hk
        have := getLsbD_of_masked hm (12 + k) (by revert k; decide)
        rw [BitVec.getElem_extractLsb', this]
        clear this; revert k; decide
      have zero : w.extractLsb' 8 4 = 0#4 := by
        ext k hk
        have := getLsbD_of_masked hm (8 + k) (by revert k; decide)
        rw [BitVec.getElem_extractLsb', this]
        clear this; revert k; decide
      simp [decode, decodeCommand, top, zero, whenZero, Except.map, Instr.row]
    | sel w => simp [Instr.row, OpWord.fits] at hw
    | rsel a b c => simp [Instr.row, OpWord.fits] at hw

theorem svcIdle : Statement .svcIdle := selector_row rfl rfl (by decide) (by decide)
theorem startWait : Statement .startWait := selector_row rfl rfl (by decide) (by decide)
theorem startGo : Statement .startGo := selector_row rfl rfl (by decide) (by decide)
theorem sendStartWait : Statement .sendStartWait := selector_row rfl rfl (by decide) (by decide)
theorem sendStartGo : Statement .sendStartGo := selector_row rfl rfl (by decide) (by decide)
theorem sendStartFail : Statement .sendStartFail := selector_row rfl rfl (by decide) (by decide)
theorem samplingWait : Statement .samplingWait := selector_row rfl rfl (by decide) (by decide)
theorem samplingTimeout : Statement .samplingTimeout := selector_row rfl rfl (by decide) (by decide)
theorem samplingRetry : Statement .samplingRetry := selector_row rfl rfl (by decide) (by decide)
theorem samplingExhausted : Statement .samplingExhausted := selector_row rfl rfl (by decide) (by decide)
theorem samplingSuccess : Statement .samplingSuccess := selector_row rfl rfl (by decide) (by decide)

theorem reqAccept (pin : Byte) (profile : Profile) : Statement (.reqAccept pin profile) := by
  refine ⟨by simp [encode, Instr.row, OpWord.fits], fun w hw => ?_⟩
  cases w with
  | rsel idle p q =>
    have : idle = 1#1 := by revert hw; simp only [Instr.row, OpWord.fits]; revert idle; decide
    simp [decode, decodeRequestSelector, this, Except.map, Instr.row]
  | cmd w => simp [Instr.row, OpWord.fits] at hw
  | sel w => simp [Instr.row, OpWord.fits] at hw

theorem reqBusy (profile : Profile) : Statement (.reqBusy profile) := by
  refine ⟨by simp [encode, Instr.row, OpWord.fits], fun w hw => ?_⟩
  cases w with
  | rsel idle p q =>
    have : idle = 0#1 := by revert hw; simp only [Instr.row, OpWord.fits]; revert idle; decide
    simp [decode, decodeRequestSelector, this, Except.map, Instr.row]
  | cmd w => simp [Instr.row, OpWord.fits] at hw
  | sel w => simp [Instr.row, OpWord.fits] at hw

end Sys2Proof.Laws.TableRows
end

