-- ==== Sys2Proof/Laws/Record.lean ====
section
/-! SUPPORT. The fields of the Sample record (30_encoding R87) and of the response words (R86), and that codes and names
determine each other (R88, R90). -/

namespace Sys2Proof.Machine

@[simp] theorem profile_ofCode_code (p : Profile) : Profile.ofCode p.code = p := by cases p <;> rfl

@[simp] theorem status_ofCode_code (s : Status) : Status.ofCode s.code = s := by cases s <;> rfl

@[simp] theorem acqState_ofCode_code (s : AcqState) : AcqState.ofCode s.code = s := by cases s <;> rfl

theorem profile_code_ofCode : ∀ c : BitVec 1, (Profile.ofCode c).code = c := by decide

theorem status_code_ofCode : ∀ c : BitVec 2, (Status.ofCode c).code = c := by decide

/-- A field above the low part of a concatenation. -/
theorem extract_high {v w start len : Nat} {x : BitVec v} {y : BitVec w} (h : w ≤ start) :
    (x ++ y).extractLsb' start len = x.extractLsb' (start - w) len := BitVec.extractLsb'_append_eq_of_le h

/-- A field inside the low part of a concatenation. -/
theorem extract_low {v w start len : Nat} {x : BitVec v} {y : BitVec w} (h : start + len ≤ w) :
    (x ++ y).extractLsb' start len = y.extractLsb' start len := BitVec.extractLsb'_append_eq_of_add_le h

theorem extract_all {w : Nat} (x : BitVec w) : x.extractLsb' 0 w = x := BitVec.extractLsb'_eq_self

/-- Two neighbouring fields are the wider field. -/
theorem extract_glue {w : Nat} (x : BitVec w) (start m k : Nat) :
    x.extractLsb' (start + m) k ++ x.extractLsb' start m = x.extractLsb' start (k + m) := by
  apply BitVec.eq_of_getLsbD_eq
  intro i hi
  rw [BitVec.getLsbD_append]
  split
  · rename_i h
    simp [h, hi]
  · rename_i h
    have hk : i - m < k := by omega
    have hs : start + m + (i - m) = start + i := by omega
    simp [hk, hi, hs]

variable (s : Sample)

theorem record_profile : s.toRecord.extractLsb' 50 1 = s.profile.code := by
  unfold Sample.toRecord
  iterate 7 rw [extract_high (by decide)]
  exact extract_all _

theorem record_status : s.toRecord.extractLsb' 48 2 = s.status.code := by
  unfold Sample.toRecord
  iterate 6 rw [extract_high (by decide)]
  exact BitVec.extractLsb'_append_eq_right

theorem record_tries : s.toRecord.extractLsb' 40 8 = s.tries := by
  unfold Sample.toRecord
  iterate 5 rw [extract_high (by decide)]
  exact BitVec.extractLsb'_append_eq_right

theorem record_b0 : s.toRecord.extractLsb' 32 8 = s.bytes.b0 := by
  unfold Sample.toRecord
  iterate 4 rw [extract_high (by decide)]
  exact BitVec.extractLsb'_append_eq_right

theorem record_b1 : s.toRecord.extractLsb' 24 8 = s.bytes.b1 := by
  unfold Sample.toRecord
  iterate 3 rw [extract_high (by decide)]
  exact BitVec.extractLsb'_append_eq_right

theorem record_b2 : s.toRecord.extractLsb' 16 8 = s.bytes.b2 := by
  unfold Sample.toRecord
  iterate 2 rw [extract_high (by decide)]
  exact BitVec.extractLsb'_append_eq_right

theorem record_b3 : s.toRecord.extractLsb' 8 8 = s.bytes.b3 := by
  unfold Sample.toRecord
  rw [extract_high (by decide)]
  exact BitVec.extractLsb'_append_eq_right

theorem record_b4 : s.toRecord.extractLsb' 0 8 = s.bytes.b4 := BitVec.extractLsb'_append_eq_right

/-- A field of a record as it stands in the response of GETRESULT. -/
theorem recordResponse_field {start len : Nat} (h : start + len ≤ 51) :
    (recordResponse s).extractLsb' start len = s.toRecord.extractLsb' start len := by
  unfold recordResponse
  ext k hk
  have h1 : start + k < 51 := by omega
  have h2 : start + k < 64 := by omega
  simp [BitVec.getElem_extractLsb', h2]

theorem recordResponse_top : (recordResponse s).extractLsb' 51 13 = 0#13 := by
  unfold recordResponse
  ext k hk
  simp only [BitVec.getElem_extractLsb', BitVec.getLsbD_setWidth, BitVec.getElem_zero]
  rw [BitVec.getLsbD_of_ge _ _ (by omega), Bool.and_false]

variable (isDefined : Bool) (v : Int)

theorem valueResponse_value : (valueResponse isDefined v).extractLsb' 0 32 = BitVec.ofInt 32 v :=
  BitVec.extractLsb'_append_eq_right

theorem valueResponse_top : (valueResponse isDefined v).extractLsb' 33 31 = 0#31 := by
  unfold valueResponse
  rw [extract_high (by decide), extract_high (by decide)]
  exact extract_all _

theorem valueResponse_defined : (valueResponse isDefined v).getLsbD 32 = isDefined := by
  have h : (valueResponse isDefined v).extractLsb' 32 1 = BitVec.ofBool isDefined := by
    unfold valueResponse
    rw [extract_high (by decide)]
    exact BitVec.extractLsb'_append_eq_right
  have h0 := congrArg (fun x => x.getLsbD 0) h
  simpa [BitVec.getLsbD_extractLsb'] using h0

end Sys2Proof.Machine
end

