-- ==== Sys2Proof/Tests/Slice0.lean ====
section
/-! SUPPORT. The model's own tests: expected values are those of spec/95_test_vectors.md (the vector is named at each test)
and of the spec's encoding tables. At the end a witness for every statement that has hypotheses. -/

open Sys2Proof Sys2Proof.Machine

namespace Sys2Proof.Tests

-- Many kernel evaluations in one file: one at a time keeps the number of threads, and so the memory, small.
set_option Elab.async false

/-! ### Helpers -/

/-- The test values of 95_test_vectors section 2. -/
def params : Params where
  wordBits := 16
  bufWords := 17
  sampleRate := 0
  sampleWaitMs := 50#32
  dht22 := ⟨2000#32, 3, "DHT22"⟩
  dht11 := ⟨1000#32, 3, "DHT11"⟩

/-- The reset state of a block with the test values. -/
def base : State := { State.reset with cfg := params, out := .quiet }

/-- The outcome is a next state with the property. -/
def nextHas (o : Host.Outcome State Fault Refusal) (p : State → Bool) : Bool :=
  match o with
  | .next t => p t
  | .fault _ => false
  | .refused _ => false

/-- The state an outcome gives, or `base`. -/
def nextOr (o : Host.Outcome State Fault Refusal) : State :=
  match o with
  | .next t => t
  | .fault _ => base
  | .refused _ => base

/-- The outcome is a refusal for the reason. -/
def refusedWith (o : Host.Outcome State Fault Refusal) (r : Refusal) : Bool :=
  match o with
  | .next _ => false
  | .fault _ => false
  | .refused q => decide (q = r)

/-- `s` about to run a command word at a clock value. -/
def at' (s : State) (now : Time) (w : CommandWord) : State := { s with moves := [.command w now true] }

/-- The sample stream of words of `n` bits. -/
def stream (n : Nat) (words : List Nat) : List Bool :=
  samples { params with wordBits := n, bufWords := words.length } (Memory.fill [] words)

/-! Buffers of 95_test_vectors section 4. -/

def v1 : List Nat :=
  [0xC3C6, 0x318C, 0x6318, 0xF8C7, 0xC631, 0x8F8C, 0x7C63, 0x18C6, 0x318C,
    0x7C7C, 0x631F, 0x18C7, 0xC631, 0x8C7C, 0x7C7C, 0x7C7F, 0xFFFF]

def v2 : List Nat :=
  [0xC3C6, 0x318C, 0x631F, 0x18F8, 0xC631, 0xF1F1, 0x8C7C, 0x6318, 0xC631,
    0x8C63, 0x18C6, 0x31F1, 0x8C63, 0x1F1F, 0x1F1F, 0x1FFF, 0xFFFF]

def v3 : List Nat :=
  [0xC3C6, 0x31F1, 0xF18C, 0x7C63, 0x18C6, 0x318C, 0x6318, 0xC7C7, 0xC631,
    0xF18C, 0x6318, 0xC631, 0x8F8C, 0x63E3, 0x1F1F, 0x1FFF, 0xFFFF]

def v4 : List Nat :=
  [0xC3C6, 0x318C, 0x6318, 0xF8C7, 0xC631, 0x8F8C, 0x7C63, 0x18C6, 0x318C,
    0x7C7C, 0x631F, 0x18C7, 0xC631, 0x8C7C, 0x7C7C, 0x63FF, 0xFFFF]

def v5 : List Nat :=
  [0xC3C6, 0x318C, 0x6318, 0xF8C7, 0xC631, 0x8F8C, 0x7C63, 0x18C6, 0x318C,
    0x7C7C, 0x631F, 0x18C7, 0xC631, 0x8C7C, 0x7C7C, 0x7FFF, 0xFFFF]

def v6 : List Nat :=
  [0xC3C6, 0x318C, 0x6318, 0xF8C7, 0xC631, 0x8F8C, 0x7C63, 0x18C6, 0x318C,
    0x7C7C, 0x631F, 0x18C7, 0xC631, 0x8C7C, 0x7C7C, 0x7C7C, 0x7FFF]

def v7 : List Nat :=
  [0x0F18, 0xC631, 0x8C63, 0xE31F, 0x18C6, 0x3E31, 0xF18C, 0x6318, 0xC631,
    0xF1F1, 0x8C7C, 0x631F, 0x18C6, 0x31F1, 0xF1F1, 0xF1FF, 0xFFFF]

def v9 : List Nat :=
  [0xC3C6, 0x318C, 0x6318, 0xF8C7, 0xC631, 0x8F8C, 0x7C63, 0x18C6, 0x318C,
    0x7C7C, 0x631F, 0x18C7, 0xC631, 0x8C7C, 0x7C7C, 0x7C00, 0x0000]

def v10 : List Nat :=
  [0xC3C6, 0x318C, 0x6318, 0xD8C7, 0xC631, 0x8F8C, 0x7C63, 0x18C6, 0x318C,
    0x7C7C, 0x631F, 0x18C7, 0xC631, 0x8C7C, 0x7C7C, 0x7C7F, 0xFFFF]

def v16 : List Nat :=
  [0xC3, 0xC6, 0x31, 0x8C, 0x63, 0x18, 0xF8, 0xC7, 0xC6,
    0x31, 0x8F, 0x8C, 0x7C, 0x63, 0x18, 0xC6, 0x31, 0x8C,
    0x7C, 0x7C, 0x63, 0x1F, 0x18, 0xC7, 0xC6, 0x31, 0x8C,
    0x7C, 0x7C, 0x7C, 0x7C, 0x7F, 0xFF, 0xFF]

def v17 : List Nat :=
  [0xC3C6318C, 0x6318F8C7, 0xC6318F8C, 0x7C6318C6, 0x318C7C7C, 0x631F18C7, 0xC6318C7C, 0x7C7C7C7F, 0xFFFFFFFF]

def v19 : List Nat :=
  [0xC3C7, 0xC7C7, 0xC7C7, 0xC7C7, 0xC7C7, 0xC7C7, 0xC7C7, 0xC7C7, 0xC7C7,
    0xC7C7, 0xC7C7, 0xC7C7, 0xC7C7, 0xC7C7, 0xC7C7, 0xC7C7, 0xC7C7, 0xC7C7,
    0xC7C7, 0xC7C6, 0x31FF, 0xFFFF, 0xFFFF]

def v20 : List Nat :=
  [0x3C39, 0xCE73, 0x9CE7, 0x0738, 0x39CE, 0x7073, 0x839C, 0xE739, 0xCE73,
    0x8383, 0x9CE0, 0xE738, 0x39CE, 0x7383, 0x8383, 0x8380, 0x0000]

/-! ### Checks on raw data: an ill-formed term for each clause -/

theorem test_params_accepted : params.wellFormed = true := by decide
theorem test_params_no_word_bits : { params with wordBits := 0, dht22 := ⟨0#32, 0, ""⟩, dht11 := ⟨0#32, 0, ""⟩ }.wellFormed = false := by
  decide
theorem test_params_no_words : { params with bufWords := 0, dht22 := ⟨0#32, 0, ""⟩, dht11 := ⟨0#32, 0, ""⟩ }.wellFormed = false := by
  decide
theorem test_params_threshold22_too_big : { params with dht22 := ⟨2000#32, 273, "DHT22"⟩ }.wellFormed = false := by decide
theorem test_params_threshold11_too_big : { params with dht11 := ⟨1000#32, 273, "DHT11"⟩ }.wellFormed = false := by decide
theorem test_params_threshold_at_bound : { params with dht22 := ⟨2000#32, 272, "DHT22"⟩ }.wellFormed = true := by decide
theorem test_capture_accepted : captureFits params v1 = true := by decide
theorem test_capture_short : captureFits params (v1.drop 1) = false := by decide
theorem test_capture_word_too_wide : captureFits params (0x10000 :: v1.drop 1) = false := by decide

/-! ### Decoding: words written out from 30_encoding and 95_test_vectors section 7 -/

/-- REQUEST: pin, profile, and the must-be-zero bits (30_encoding R83). -/
theorem test_decode_request_words :
    decodeCommand 0b0010_000_1_00000111#16 = .ok (.request 7#8 .dht11) ∧
    decodeCommand 0x2007#16 = .ok (.request 7#8 .dht22) ∧
    decodeCommand 0x2107#16 = .ok (.request 7#8 .dht11) ∧
    decodeCommand 0x20FF#16 = .ok (.request 255#8 .dht22) ∧
    decodeCommand 0x2207#16 = .error (.reservedOperandBits 0x2#4) := by decide
theorem test_decode_init : decodeCommand 0x1000#16 = .ok .init := by decide
theorem test_decode_service_words :
    decodeCommand 0x3000#16 = .ok .service ∧
    decodeCommand 0x3001#16 = .error (.reservedOperandBits 0x3#4) := by decide
theorem test_decode_setMaxTries_words :
    decodeCommand 0x4000#16 = .ok (.setMaxTries 0#8) ∧
    decodeCommand 0x40FF#16 = .ok (.setMaxTries 255#8) ∧
    decodeCommand 0x4100#16 = .error (.reservedOperandBits 0x4#4) := by decide
theorem test_decode_canStart : decodeCommand 0x5000#16 = .ok .canStart := by decide
theorem test_decode_getResult : decodeCommand 0x6000#16 = .ok .getResult := by decide
theorem test_decode_accessors :
    decodeCommand 0x7000#16 = .ok .isSuccess ∧
    decodeCommand 0x7001#16 = .ok .isBusy ∧
    decodeCommand 0x7002#16 = .ok .isError ∧
    decodeCommand 0x7003#16 = .ok .isTooManyRetries ∧
    decodeCommand 0x7004#16 = .ok .getTempC ∧
    decodeCommand 0x7005#16 = .ok .getTempF ∧
    decodeCommand 0x7006#16 = .ok .getHumidity ∧
    decodeCommand 0x7007#16 = .ok .getDewPointC ∧
    decodeCommand 0x7008#16 = .ok .getDewPointF ∧
    decodeCommand 0x7009#16 = .ok .getTries := by decide
theorem test_decode_reserved_accessors :
    decodeCommand 0x700A#16 = .error (.reservedAccessor 0xA#4) ∧
    decodeCommand 0x700F#16 = .error (.reservedAccessor 0xF#4) ∧
    decodeCommand 0x7010#16 = .error (.reservedOperandBits 0x7#4) := by decide
theorem test_decode_reserved_operations :
    decodeCommand 0x0000#16 = .error (.reservedOp 0x0#4) ∧
    decodeCommand 0x8000#16 = .error (.reservedOp 0x8#4) ∧
    decodeCommand 0xFFFF#16 = .error (.reservedOp 0xF#4) := by decide
theorem test_decode_svcIdle :
    decodeSelector 0b00_0000000#9 = .svcIdle ∧
    decodeSelector 0b00_1111111#9 = .svcIdle := by decide
theorem test_decode_startWait :
    decodeSelector 0b01_0000000#9 = .startWait ∧
    decodeSelector 0b01_0111111#9 = .startWait := by decide
theorem test_decode_startGo :
    decodeSelector 0b01_1000000#9 = .startGo ∧
    decodeSelector 0b01_1111111#9 = .startGo := by decide
theorem test_decode_sendStartWait :
    decodeSelector 0b10_0000000#9 = .sendStartWait ∧
    decodeSelector 0b10_1011111#9 = .sendStartWait := by decide
theorem test_decode_sendStartGo :
    decodeSelector 0b10_0110000#9 = .sendStartGo ∧
    decodeSelector 0b10_1111111#9 = .sendStartGo := by decide
theorem test_decode_sendStartFail :
    decodeSelector 0b10_0100000#9 = .sendStartFail ∧
    decodeSelector 0b10_1101111#9 = .sendStartFail := by decide
theorem test_decode_samplingWait :
    decodeSelector 0b11_0000000#9 = .samplingWait ∧
    decodeSelector 0b11_1110011#9 = .samplingWait := by decide
theorem test_decode_samplingTimeout :
    decodeSelector 0b11_0000100#9 = .samplingTimeout ∧
    decodeSelector 0b11_1110111#9 = .samplingTimeout := by decide
theorem test_decode_samplingRetry :
    decodeSelector 0b11_0001000#9 = .samplingRetry ∧
    decodeSelector 0b11_1111100#9 = .samplingRetry ∧
    decodeSelector 0b11_0001100#9 = .samplingRetry := by decide
theorem test_decode_samplingExhausted :
    decodeSelector 0b11_0001001#9 = .samplingExhausted ∧
    decodeSelector 0b11_1111101#9 = .samplingExhausted := by decide
theorem test_decode_samplingSuccess :
    decodeSelector 0b11_0001010#9 = .samplingSuccess ∧
    decodeSelector 0b11_1111110#9 = .samplingSuccess ∧
    decodeSelector 0b11_1111111#9 = .samplingSuccess ∧
    decodeSelector 0b11_0001110#9 = .samplingSuccess := by decide
theorem test_decode_reqAccept : decode (.rsel 0b1#1 1#1 7#8) = .ok (.reqAccept 7#8 .dht11) := by decide
theorem test_decode_reqBusy : decode (.rsel 0b0#1 1#1 7#8) = .ok (.reqBusy .dht11) := by decide
theorem test_tableWord_cmd : decodeTableWord 16 0x2000 = some (.request 0#8 .dht22) := by decide
theorem test_tableWord_sel : decodeTableWord 16 0x18A = some .samplingSuccess := by decide
theorem test_tableWord_rsel : decodeTableWord 8 1 = some (.reqAccept 0#8 .dht22) := by decide
theorem test_tableWord_refused : decodeTableWord 16 0x8000 = none := by decide

/-! ### Sample records (30_encoding R87; 95_test_vectors section 7) -/

theorem test_records :
    (Sample.mk .dht22 .error 0#8 ⟨0x00#8, 0x00#8, 0x00#8, 0x00#8, 0x00#8⟩).toRecord = 0x1000000000000#51 ∧
    (Sample.mk .dht11 .success 1#8 ⟨0x32#8, 0x00#8, 0x19#8, 0x00#8, 0x4B#8⟩).toRecord = 0x401320019004B#51 ∧
    (Sample.mk .dht22 .tooManyRetries 2#8 ⟨0x01#8, 0x45#8, 0x00#8, 0xC9#8, 0x0E#8⟩).toRecord = 0x202014500C90E#51 ∧
    (Sample.mk .dht11 .busy 255#8 ⟨0xFF#8, 0xFF#8, 0xFF#8, 0xFF#8, 0xFF#8⟩).toRecord = 0x7FFFFFFFFFFFF#51 := by decide

/-! ### The pulse decoder (95_test_vectors section 4) -/

theorem test_decoder_source_example_v1 :
    decodeStream 3 (stream 16 v1) = (true, ⟨0x01#8, 0x45#8, 0x00#8, 0xC9#8, 0x0F#8⟩) := by decide +kernel
theorem test_decoder_second_example_v2 :
    decodeStream 3 (stream 16 v2) = (true, ⟨0x02#8, 0x8C#8, 0x80#8, 0x01#8, 0x0F#8⟩) := by decide +kernel
theorem test_decoder_standard_v3 :
    decodeStream 3 (stream 16 v3) = (true, ⟨0x32#8, 0x00#8, 0x19#8, 0x00#8, 0x4B#8⟩) := by decide +kernel
theorem test_decoder_standard_v4 :
    decodeStream 3 (stream 16 v4) = (true, ⟨0x01#8, 0x45#8, 0x00#8, 0xC9#8, 0x0E#8⟩) := by decide +kernel
theorem test_decoder_standard_v5 :
    decodeStream 3 (stream 16 v5) = (false, ⟨0x01#8, 0x45#8, 0x00#8, 0xC9#8, 0x0E#8⟩) := by decide +kernel
theorem test_decoder_v6 : decodeStream 3 (stream 16 v6) = (false, ⟨0x01#8, 0x45#8, 0x00#8, 0xC9#8, 0x0F#8⟩) := by
  decide +kernel
theorem test_decoder_v7 : decodeStream 3 (stream 16 v7) = (false, ⟨0x02#8, 0x8A#8, 0x01#8, 0x92#8, 0x1E#8⟩) := by
  decide +kernel
theorem test_decoder_v9 : decodeStream 3 (stream 16 v9) = (true, ⟨0x01#8, 0x45#8, 0x00#8, 0xC9#8, 0x0F#8⟩) := by
  decide +kernel
theorem test_decoder_v10 : decodeStream 3 (stream 16 v10) = (false, ⟨0x00#8, 0x22#8, 0x80#8, 0x64#8, 0x87#8⟩) := by
  decide +kernel
theorem test_decoder_thresholds_v11 :
    decodeStream 0 (stream 16 v1) = (true, ⟨0xFF#8, 0xFF#8, 0xFF#8, 0xFF#8, 0xFF#8⟩) ∧
    decodeStream 2 (stream 16 v1) = (true, ⟨0x01#8, 0x45#8, 0x00#8, 0xC9#8, 0x0F#8⟩) ∧
    decodeStream 5 (stream 16 v1) = (true, ⟨0x00#8, 0x00#8, 0x00#8, 0x00#8, 0x00#8⟩) := by decide +kernel
theorem test_decoder_v16 : decodeStream 3 (stream 8 v16) = (true, ⟨0x01#8, 0x45#8, 0x00#8, 0xC9#8, 0x0F#8⟩) := by
  decide +kernel
theorem test_decoder_v17 : decodeStream 3 (stream 32 v17) = (true, ⟨0x01#8, 0x45#8, 0x00#8, 0xC9#8, 0x0F#8⟩) := by
  decide +kernel
theorem test_decoder_v19 : decodeStream 3 (stream 16 v19) = (true, ⟨0xFF#8, 0xFF#8, 0xFF#8, 0xFF#8, 0xFC#8⟩) := by
  decide +kernel
theorem test_decoder_v20 : decodeStream 3 (stream 16 v20) = (true, ⟨0x00#8, 0x00#8, 0x00#8, 0x00#8, 0x00#8⟩) := by
  decide +kernel
theorem test_decoder_short_v12 :
    decodeStream 3 (stream 8 [0xDB, 0xBC]) = (false, ⟨0x40#8, 0#8, 0#8, 0#8, 0#8⟩) ∧
    decodeStream 2 (stream 8 [0xDB, 0xBC]) = (false, ⟨0xC0#8, 0#8, 0#8, 0#8, 0#8⟩) := by decide +kernel
theorem test_decoder_dead_line_v13 :
    decodeStream 3 (stream 16 [0xFFFF, 0xFFFF]) = (false, ⟨0#8, 0#8, 0#8, 0#8, 0#8⟩) := by decide +kernel
theorem test_decoder_one_sample_v14 :
    decodeStream 0 (stream 1 [1]) = (false, ⟨0#8, 0#8, 0#8, 0#8, 0#8⟩) := by decide +kernel
theorem test_decoder_short_v15 :
    decodeStream 0 (stream 8 [0xA8]) = (false, ⟨0x80#8, 0#8, 0#8, 0#8, 0#8⟩) := by decide +kernel

/-! ### The checksum (95_test_vectors section 5) -/

theorem test_checksums :
    checksum ⟨0x01#8, 0x45#8, 0x00#8, 0xC9#8, 0x0F#8⟩ = true ∧
    checksum ⟨0xFF#8, 0xFF#8, 0xFF#8, 0xFF#8, 0xFC#8⟩ = true ∧
    checksum ⟨0x80#8, 0x80#8, 0x00#8, 0x00#8, 0x00#8⟩ = true ∧
    checksum ⟨0x00#8, 0x00#8, 0x00#8, 0x00#8, 0x01#8⟩ = false ∧
    checksum ⟨0x02#8, 0x45#8, 0x00#8, 0xC9#8, 0x0F#8⟩ = false ∧
    checksum ⟨0x01#8, 0x45#8, 0x00#8, 0xC9#8, 0x10#8⟩ = false ∧
    checksum ⟨0x02#8, 0x44#8, 0x00#8, 0xC9#8, 0x0F#8⟩ = true := by decide

/-! ### The interpreter (95_test_vectors section 6), as response words -/

/-- `base` with a stored Success of profile `p` and the bytes. -/
def measured (p : Profile) (b0 b1 b2 b3 : Byte) : State := { base with result := ⟨p, .success, 1#8, ⟨b0, b1, b2, b3, 0#8⟩⟩ }

/-- The response word of an operation. -/
def rspOf (i : Instr) (s : State) : Option ResponseWord := (nextOr (exec i s)).out.rsp

theorem test_values_of_dht22 :
    rspOf .getTempC (measured .dht22 0x01#8 0x45#8 0x00#8 0xC9#8) = some 0x00000001000000C9#64 ∧
    rspOf .getHumidity (measured .dht22 0x01#8 0x45#8 0x00#8 0xC9#8) = some 0x0000000100000145#64 ∧
    rspOf .getTempF (measured .dht22 0x01#8 0x45#8 0x00#8 0xC9#8) = some 0x0000000100001AA2#64 ∧
    rspOf .getTempC (measured .dht22 0x02#8 0x8C#8 0x80#8 0x01#8) = some 0x00000001FFFFFFFF#64 ∧
    rspOf .getHumidity (measured .dht22 0x02#8 0x8C#8 0x80#8 0x01#8) = some 0x000000010000028C#64 ∧
    rspOf .getTempF (measured .dht22 0x02#8 0x8C#8 0x80#8 0x01#8) = some 0x0000000100000C6E#64 ∧
    rspOf .getTempC (measured .dht22 0x03#8 0xE8#8 0x81#8 0x90#8) = some 0x00000001FFFFFE70#64 ∧
    rspOf .getHumidity (measured .dht22 0x03#8 0xE8#8 0x81#8 0x90#8) = some 0x00000001000003E8#64 ∧
    rspOf .getTempF (measured .dht22 0x03#8 0xE8#8 0x81#8 0x90#8) = some 0x00000001FFFFF060#64 ∧
    rspOf .getTempC (measured .dht22 0xFF#8 0xFF#8 0xFF#8 0xFF#8) = some 0x00000001FFFF8001#64 ∧
    rspOf .getHumidity (measured .dht22 0xFF#8 0xFF#8 0xFF#8 0xFF#8) = some 0x000000010000FFFF#64 ∧
    rspOf .getTempF (measured .dht22 0xFF#8 0xFF#8 0xFF#8 0xFF#8) = some 0x00000001FFF70C92#64 := by decide
theorem test_values_of_dht11 :
    rspOf .getTempC (measured .dht11 0x32#8 0x00#8 0x19#8 0x00#8) = some 0x00000001000000FA#64 ∧
    rspOf .getHumidity (measured .dht11 0x32#8 0x00#8 0x19#8 0x00#8) = some 0x00000001000001F4#64 ∧
    rspOf .getTempF (measured .dht11 0x32#8 0x00#8 0x19#8 0x00#8) = some 0x0000000100001E14#64 ∧
    rspOf .getTempC (measured .dht11 0x80#8 0x00#8 0x80#8 0x00#8) = some 0x00000001FFFFFB00#64 ∧
    rspOf .getHumidity (measured .dht11 0x80#8 0x00#8 0x80#8 0x00#8) = some 0x00000001FFFFFB00#64 ∧
    rspOf .getTempF (measured .dht11 0x80#8 0x00#8 0x80#8 0x00#8) = some 0x00000001FFFFB280#64 ∧
    rspOf .getTempC (measured .dht11 0xFF#8 0x09#8 0xFF#8 0x09#8) = some 0x00000001FFFFFFF6#64 ∧
    rspOf .getHumidity (measured .dht11 0xFF#8 0x09#8 0xFF#8 0x09#8) = some 0x00000001FFFFFFF6#64 ∧
    rspOf .getTempF (measured .dht11 0xFF#8 0x09#8 0xFF#8 0x09#8) = some 0x0000000100000BCC#64 := by decide

/-- P2 step 17: with another status `defined` is 0. -/
theorem test_value_not_defined : rspOf .getTempC { base with result := ⟨.dht22, .tooManyRetries, 2#8, ⟨0x01#8, 0x45#8, 0#8, 0xC9#8, 0x0E#8⟩⟩ } =
    some 0x00000000000000C9#64 := by decide
/-- The dew points are functions of temperature 201 and humidity 325, in this order (40 R124, R125). -/
theorem test_dew_points :
    exec .getDewPointC (measured .dht22 0x01#8 0x45#8 0#8 0xC9#8) =
      .next (respond (valueResponse true (Config.dewPointC10 201 325)) (measured .dht22 0x01#8 0x45#8 0#8 0xC9#8)) ∧
    exec .getDewPointF (measured .dht22 0x01#8 0x45#8 0#8 0xC9#8) =
      .next (respond (valueResponse true (18 * Config.dewPointC10 201 325 + 3200))
        (measured .dht22 0x01#8 0x45#8 0#8 0xC9#8)) := ⟨rfl, rfl⟩

/-! ### Single steps (95_test_vectors sections 8 and 9) -/

/-- The frame of V1. -/
def frame1 : FrameBytes := ⟨0x01#8, 0x45#8, 0x00#8, 0xC9#8, 0x0F#8⟩

/-- The frame of V4 and V5. -/
def frame4 : FrameBytes := ⟨0x01#8, 0x45#8, 0x00#8, 0xC9#8, 0x0E#8⟩

def startState (p : Profile) (lqt : Time) : State :=
  { base with state := .start, result := .cleared p, lastQueryTime := lqt, pin := 7#8, inited := true }

def sendStartState : State :=
  { base with state := .sendStart, stateTime := 7024#32, lineDir := .output, pin := 7#8, inited := true }

def samplingState (n : Byte) : State :=
  { base with
    state := .sampling, stateTime := 7042#32, capturing := true, pin := 7#8, inited := true
    result := { Sample.cleared .dht22 with tries := n } }

def capturedState (buf : List Nat) (n limit : Byte) : State :=
  { samplingState n with buf := Memory.fill [] buf, capDone := true, maxTries := limit }

def serviced (s : State) (now : Time) : Host.Outcome State Fault Refusal := step (at' s now 0x3000#16)

theorem test_P1_1_init : nextHas (step (at' base 4990#32 0x1000#16)) (fun t => t.inited && decide (t.out.rsp = some 0#64)) = true := by
  decide
theorem test_P1_2_canStart : nextHas (step (at' base 4995#32 0x5000#16)) (fun t => decide (t.out.rsp = some 1#64)) = true := by decide
theorem test_P1_4_canStart_in_flight :
    nextHas (step (at' (startState .dht22 0#32) 5000#32 0x5000#16)) (fun t => decide (t.out.rsp = some 0#64)) = true := by decide
theorem test_P1_10_getResult : rspOf .getResult { base with result := ⟨.dht22, .success, 1#8, frame1⟩ } = some 0x000001014500C90F#64 := by
  decide
theorem test_P1_11_isSuccess : rspOf .isSuccess { base with result := ⟨.dht22, .success, 1#8, frame1⟩ } = some 1#64 := by decide
theorem test_P1_15_getTries : rspOf .getTries { base with result := ⟨.dht22, .success, 1#8, frame1⟩ } = some 1#64 := by decide
theorem test_P2_2_setMaxTries : nextHas (step (at' base 100#32 0x4002#16)) (fun t => decide (t.maxTries = 2#8)) = true := by decide
theorem test_P2_16_isTooManyRetries :
    rspOf .isTooManyRetries { base with result := ⟨.dht22, .tooManyRetries, 2#8, frame4⟩ } = some 1#64 := by decide
theorem test_P3_13_isError : rspOf .isError base = some 1#64 := by decide
theorem test_isBusy : rspOf .isBusy base = some 0#64 := by decide
theorem test_reserved_word :
    nextHas (step (at' base 5#32 0x3001#16)) (fun t =>
      t.out.cmdErr && decide (t.out.rsp = some 0#64) && decide (t.out.completion = none) && decide (t.state = .idle)) = true := by
  decide
theorem test_F1_reqAccept :
    nextHas (step (at' { base with result := ⟨.dht22, .success, 1#8, frame1⟩, lastQueryTime := 5024#32 } 5030#32 0x2107#16))
      (fun t => decide (t.state = .start) && decide (t.pin = 7#8) && decide (t.result = .cleared .dht11) &&
        decide (t.lastQueryTime = 5024#32) && decide (t.out.completion = none)) = true := by decide
theorem test_F2_reqBusy :
    nextHas (step (at' (samplingState 1#8) 5030#32 0x2003#16)) (fun t =>
      decide (t.out.completion = some ⟨.dht22, .busy, 0#8, .zero⟩) && decide (t.state = .sampling) && decide (t.pin = 7#8)) = true := by
  decide
theorem test_F3_startWait : nextHas (serviced (startState .dht22 5024#32) 7023#32) (fun t =>
    decide (t.state = .start) && decide (t.lineDir = .input)) = true := by decide
theorem test_F4_startGo : nextHas (serviced (startState .dht22 5024#32) 7024#32) (fun t =>
    decide (t.state = .sendStart) && decide (t.stateTime = 7024#32) && decide (t.lineDir = .output) &&
      decide (t.lineOut = .low) && decide (t.out.calls = [.gpioOutputLow 7#8])) = true := by decide
theorem test_F5_startGo_dht11 : nextHas (serviced (startState .dht11 5024#32) 6024#32) (fun t =>
    decide (t.state = .sendStart) && decide (t.stateTime = 6024#32)) = true := by decide
theorem test_F6_sendStartWait : nextHas (serviced sendStartState 7041#32) (fun t =>
    decide (t.state = .sendStart) && decide (t.lineDir = .output)) = true := by decide
theorem test_F7_sendStartGo : nextHas (serviced sendStartState 7042#32) (fun t =>
    decide (t.state = .sampling) && decide (t.result.tries = 1#8) && decide (t.stateTime = 7042#32) && !t.capDone &&
      t.capturing && decide (t.lineDir = .input) && decide (t.out.calls = [.gpioInput 7#8, .captureStart 7#8])) = true := by
  decide
theorem test_F8_sendStartFail :
    nextHas (step { sendStartState with moves := [.command 0x3000#16 7042#32 false] }) (fun t =>
      decide (t.state = .idle) && decide (t.lastQueryTime = 7042#32) && !t.capturing && decide (t.lineDir = .input) &&
        decide (t.out.completion = some ⟨.dht22, .error, 1#8, .zero⟩)) = true := by decide
theorem test_F10_samplingWait : nextHas (serviced (samplingState 1#8) 7091#32) (fun t => decide (t.state = .sampling)) = true := by
  decide
theorem test_F11_samplingTimeout : nextHas (serviced (samplingState 1#8) 7092#32) (fun t =>
    decide (t.state = .idle) && decide (t.lastQueryTime = 7092#32) && !t.capturing &&
      decide (t.out.completion = some ⟨.dht22, .error, 1#8, .zero⟩)) = true := by decide
theorem test_F12_samplingSuccess : nextHas (serviced (capturedState v1 1#8 4#8) 7200#32) (fun t =>
    decide (t.state = .idle) && decide (t.lastQueryTime = 7200#32) && decide (t.result = ⟨.dht22, .success, 1#8, frame1⟩) &&
      decide (t.out.completion = some ⟨.dht22, .success, 1#8, frame1⟩)) = true := by decide +kernel
theorem test_F13_samplingRetry : nextHas (serviced (capturedState v4 1#8 4#8) 7048#32) (fun t =>
    decide (t.state = .start) && decide (t.lastQueryTime = 7048#32) && decide (t.result = ⟨.dht22, .error, 1#8, frame4⟩) &&
      decide (t.out.completion = none) && !t.capturing) = true := by decide +kernel
theorem test_F14_samplingExhausted : nextHas (serviced (capturedState v5 4#8 4#8) 7048#32) (fun t =>
    decide (t.state = .idle) && decide (t.lastQueryTime = 7048#32) &&
      decide (t.out.completion = some ⟨.dht22, .tooManyRetries, 4#8, frame4⟩)) = true := by decide +kernel
theorem test_F15_samplingSuccess_budget_spent : nextHas (serviced (capturedState v1 4#8 4#8) 7048#32) (fun t =>
    decide (t.out.completion = some ⟨.dht22, .success, 4#8, frame1⟩)) = true := by decide +kernel
theorem test_F16_samplingExhausted_budget_0 : nextHas (serviced (capturedState v4 1#8 0#8) 7048#32) (fun t =>
    decide (t.out.completion = some ⟨.dht22, .tooManyRetries, 1#8, frame4⟩)) = true := by decide +kernel
theorem test_F18_svcIdle : nextHas (serviced base 9000#32) (fun t =>
    decide (t.state = .idle) && decide (t.out.completion = none)) = true := by decide
theorem test_F19_startWait_wrap : nextHas (serviced (startState .dht22 4294965320#32) 23#32) (fun t =>
    decide (t.state = .start)) = true := by decide
theorem test_F20_startGo_wrap : nextHas (serviced (startState .dht22 4294965320#32) 24#32) (fun t =>
    decide (t.state = .sendStart) && decide (t.stateTime = 24#32)) = true := by decide
theorem test_P1_capture : nextHas (step { samplingState 1#8 with moves := [.capture v1] }) (fun t =>
    t.capDone && decide (t.buf.read 0 = 0xC3C6) && decide (t.buf.read 16 = 0xFFFF)) = true := by decide +kernel
theorem test_P5_no_capture_without_init :
    refusedWith (step { samplingState 1#8 with inited := false, moves := [.capture v1] }) .captureNotEnabled = true := by decide
theorem test_capture_ill_formed :
    refusedWith (step { samplingState 1#8 with moves := [.capture (v1.drop 1)] }) .captureIllFormed = true := by decide +kernel
theorem test_P5_reset_in_flight : nextHas (step { sendStartState with moves := [.reset] }) (fun t =>
    decide (t.state = .idle) && decide (t.lineDir = .input) && decide (t.out.completion = none) && decide (t.maxTries = 4#8) &&
      !t.inited) = true := by decide
theorem test_no_move : nextHas (step base) (fun t => decide (t.state = base.state)) = true := by decide
/-- REQ.ACCEPT clears the bytes (10_state R38, R39). -/
theorem test_reqAccept_alone :
    nextHas (exec (.reqAccept 9#8 .dht22) (measured .dht22 1#8 2#8 3#8 4#8)) (fun t =>
      decide (t.result.bytes = .zero) && decide (t.pin = 9#8)) = true := by decide
theorem test_reqBusy_alone : nextHas (exec (.reqBusy .dht11) (samplingState 1#8)) (fun t =>
    decide (t.out.completion = some ⟨.dht11, .busy, 0#8, .zero⟩)) = true := by decide

/-! ### The buffer -/

theorem test_write_unwritten_removes : Memory.write [(0, 5), (3, 7)] 3 0 = [(0, 5)] := by decide
theorem test_write_keeps_order : Memory.write [(0, 5), (3, 7)] 1 9 = [(0, 5), (1, 9), (3, 7)] := by decide
theorem test_sampleBit_msb_first : (stream 8 [0xDB, 0xBC]).take 10 =
    [true, true, false, true, true, false, true, true, true, false] := by decide

/-! ### A table word is the next thing the step runs -/

/-- Bit for bit the selector of a selector word is the one the step computes. -/
def runsSelector (w : BitVec 9) : Bool :=
  let s := base.withFetchWord 16 w.toNat
  match s.moves with
  | .command 0x3000#16 now capOk :: rest => decide ((selector (beginCommand now capOk rest s)).toWord = w)
  | _ => false

theorem test_fetch_other_selectors :
    [0b00_0000000#9, 0b00_1111111#9].all runsSelector = true ∧
    [0b01_0000000#9, 0b01_0111111#9].all runsSelector = true ∧
    [0b01_1000000#9, 0b01_1111111#9].all runsSelector = true ∧
    [0b10_0000000#9, 0b10_1011111#9].all runsSelector = true ∧
    [0b10_0110000#9, 0b10_1111111#9].all runsSelector = true ∧
    [0b10_0100000#9, 0b10_1101111#9].all runsSelector = true ∧
    [0b11_0000000#9, 0b11_1110011#9].all runsSelector = true ∧
    [0b11_0000100#9, 0b11_1110111#9].all runsSelector = true ∧
    [0b11_0001000#9, 0b11_1111100#9, 0b11_0001100#9].all runsSelector = true ∧
    [0b11_0001001#9, 0b11_1111101#9].all runsSelector = true ∧
    [0b11_0001010#9, 0b11_1111110#9, 0b11_1111111#9, 0b11_0001110#9].all runsSelector = true ∧
    nextHas (step (State.reset.withFetchWord 16 0x4009)) (fun t => decide (t.maxTries = 9#8)) = true := by decide +kernel
theorem test_fetch_reqAccept : nextHas (step (State.reset.withFetchWord 8 1)) (fun t => decide (t.state = .start)) = true := by decide
theorem test_fetch_reqBusy : nextHas (step (State.reset.withFetchWord 8 0)) (fun t => decide (t.out.completion ≠ none)) = true := by decide
theorem test_fetch_init : nextHas (step (State.reset.withFetchWord 16 0x1000)) (fun t => t.inited) = true := by decide

/-! ### Witnesses: a concrete state and operands that meet the hypotheses of each statement

One theorem for each statement that has hypotheses, one part for each clause, at a boundary value where the clause has a
range. -/

/-- The step from `s` answers a next state. -/
theorem step_answers {s : State} (h : nextHas (step s) (fun _ => true) = true) : step s = .next (nextOr (step s)) := by
  unfold nextHas at h
  split at h
  · rename_i t ht; rw [ht]; rfl
  · cases h
  · cases h

theorem inv_base (moves : List Move) : Inv { base with moves := moves } where
  paramsOk := test_params_accepted
  bufCanonical := reset_buf_wf
  bufFits := by simp [base, State.reset]
  capturingInSampling := nofun
  samplingCaptures := nofun
  samplingTried := nofun
  idleTried := fun _ => .inr rfl
  inFlightError := fun h => absurd rfl h
  lineDriven := ⟨nofun, nofun⟩
  doneInited := nofun
  successValid := nofun
  exhaustedTried := nofun
  neverBusy := nofun
  lineNeverHigh := rfl
  triesBelowEnd := by rintro (h | h) <;> cases h

theorem inv_start (p : Profile) (lqt : Time) (moves : List Move) : Inv { startState p lqt with moves := moves } where
  paramsOk := test_params_accepted
  bufCanonical := reset_buf_wf
  bufFits := by simp [startState, base, State.reset]
  capturingInSampling := nofun
  samplingCaptures := nofun
  samplingTried := nofun
  idleTried := nofun
  inFlightError := fun _ => rfl
  lineDriven := ⟨nofun, nofun⟩
  doneInited := nofun
  successValid := nofun
  exhaustedTried := nofun
  neverBusy := nofun
  lineNeverHigh := rfl
  triesBelowEnd := fun _ => by show (0#8).toNat ≤ 254; decide

theorem inv_sendStart (moves : List Move) : Inv { sendStartState with moves := moves } where
  paramsOk := test_params_accepted
  bufCanonical := reset_buf_wf
  bufFits := by simp [sendStartState, base, State.reset]
  capturingInSampling := nofun
  samplingCaptures := nofun
  samplingTried := nofun
  idleTried := nofun
  inFlightError := fun _ => rfl
  lineDriven := ⟨fun _ => rfl, fun _ => rfl⟩
  doneInited := nofun
  successValid := nofun
  exhaustedTried := nofun
  neverBusy := nofun
  lineNeverHigh := rfl
  triesBelowEnd := fun _ => by show (0#8).toNat ≤ 254; decide

/-- Sampling, with or without INIT, after one attempt. -/
theorem inv_sampling (inited : Bool) (moves : List Move) :
    Inv { samplingState 1#8 with inited := inited, moves := moves } where
  paramsOk := test_params_accepted
  bufCanonical := reset_buf_wf
  bufFits := by simp [samplingState, base, State.reset]
  capturingInSampling := fun _ => rfl
  samplingCaptures := fun _ => rfl
  samplingTried := fun _ => by show 1 ≤ (1#8).toNat; decide
  idleTried := nofun
  inFlightError := fun _ => rfl
  lineDriven := ⟨nofun, nofun⟩
  doneInited := nofun
  successValid := nofun
  exhaustedTried := nofun
  neverBusy := nofun
  lineNeverHigh := rfl
  triesBelowEnd := by rintro (h | h) <;> cases h

theorem canonical4 : Memory.wf (Memory.fill [] v4) := wf_fill reset_buf_wf v4

theorem fits4 : Memory.fits params (Memory.fill [] v4) :=
  fits_fill (by simp) (show captureFits params v4 = true by decide +kernel)

/-- Sampling with the bad frame of V4 captured, `n` attempts made. -/
theorem inv_captured4 {n limit : Byte} (hn : 1 ≤ n.toNat) (moves : List Move) :
    Inv { capturedState v4 n limit with moves := moves } where
  paramsOk := test_params_accepted
  bufCanonical := canonical4
  bufFits := fits4
  capturingInSampling := fun _ => rfl
  samplingCaptures := fun _ => rfl
  samplingTried := fun _ => hn
  idleTried := nofun
  inFlightError := fun _ => rfl
  lineDriven := ⟨nofun, nofun⟩
  doneInited := fun _ => rfl
  successValid := nofun
  exhaustedTried := nofun
  neverBusy := nofun
  lineNeverHigh := rfl
  triesBelowEnd := by rintro (h | h) <;> cases h

/-- The next move of `at' s now w` with a defined word. -/
theorem next_at {w : CommandWord} {i : Instr} (h : decodeCommand w = .ok i) (s : State) (now : Time) :
    (at' s now w).nextIs i now true [] := ⟨w, rfl, h⟩

theorem service_at (s : State) (now : Time) : (at' s now 0x3000#16).nextIs .service now true [] := next_at (by decide) s now

theorem no_setMaxTries_at (s : State) (now : Time) : ¬(at' s now 0x3000#16).nextSetsMaxTries := by
  rintro ⟨n, now', ok, rest, w, hm, hd⟩
  cases hm
  simp [decodeCommand, whenZero] at hd

theorem no_reset_at (s : State) (now : Time) (w : CommandWord) : ¬(at' s now w).nextIsReset := by
  rintro ⟨rest, h⟩; cases h

theorem witness_ResetInputRestoresEveryRegister : { sendStartState with moves := [.reset] }.moves = .reset :: [] := rfl

theorem witness_StepRunsTheDecodedCommand :
    (at' base 5000#32 0x2007#16).moves = .command 0x2007#16 5000#32 true :: [] ∧
      decodeCommand 0x2007#16 = .ok (.request 7#8 .dht22) := ⟨rfl, by decide⟩

theorem witness_ReservedWordRaisesOnlyTheErrorOutput :
    (at' base 5000#32 0x3001#16).moves = .command 0x3001#16 5000#32 true :: [] ∧
      decodeCommand 0x3001#16 = .error (.reservedOperandBits 0x3#4) := ⟨rfl, by decide⟩

theorem witness_EveryCommandWordCompletes : (at' base 5000#32 0xFFFF#16).nextIsCommand := ⟨_, _, _, _, rfl⟩

theorem witness_ParametersNeverChange : step (at' base 0#32 0x1000#16) = .next (nextOr (step (at' base 0#32 0x1000#16))) :=
  step_answers (by decide)

theorem witness_CommandWordIsTheEncodingOfItsMeaning : decodeCommand 0x21FF#16 = .ok (.request 255#8 .dht11) := by decide

theorem witness_RequestInIdleIsAccepted : base.state = .idle := rfl

theorem witness_RequestInFlightIsAnsweredBusy :
    (startState .dht22 0#32).state ≠ .idle ∧ sendStartState.state ≠ .idle ∧ (samplingState 1#8).state ≠ .idle := ⟨nofun, nofun, nofun⟩

/-- A selector of each row, as `selector` computes it. -/
theorem witness_ServiceTakesTheOneMatchingTransition :
    [(0b00_0000000#9, Transition.svcIdle), (0b01_0000000#9, .startWait), (0b01_1000000#9, .startGo),
      (0b10_0010000#9, .sendStartWait), (0b10_0110000#9, .sendStartGo), (0b10_0100000#9, .sendStartFail),
      (0b11_0000000#9, .samplingWait), (0b11_0000100#9, .samplingTimeout), (0b11_0001000#9, .samplingRetry),
      (0b11_0001001#9, .samplingExhausted), (0b11_0001010#9, .samplingSuccess)].all (fun q =>
        let s := base.withFetchWord 16 q.1.toNat
        (OpWord.sel (selector { s with capOk := (Sel.ofWord q.1).capOk }).toWord).fits q.2.toInstr.row) = true := by
  decide +kernel

theorem witness_IsBusyAnswersZero : Inv base := inv_base []

theorem witness_DerivedValuesAreAnsweredOnSuccess :
    let s := measured .dht22 0x02#8 0x8C#8 0x80#8 0x01#8
    (Instr.getTempC, s.result.t10) ∈ [(Instr.getTempC, s.result.t10), (.getTempF, s.result.tf100),
      (.getHumidity, s.result.h10), (.getDewPointC, s.result.dp10), (.getDewPointF, s.result.dpf100)] ∧
    s.result.status = .success := ⟨List.mem_cons_self, rfl⟩

theorem witness_QueriesChangeNoRegister : exec .getTries base = .next (nextOr (exec .getTries base)) := rfl

theorem witness_ServiceInIdleDoesNothing : base.state = .idle := rfl

/-- The last millisecond before the minimum interval is over, and the first after. -/
theorem witness_ServiceInStartHoldsTheMinimumInterval :
    let s := { startState .dht22 5024#32 with now := 7023#32 }
    let t := { startState .dht22 5024#32 with now := 7024#32 }
    (s.state = .start ∧ s.now - s.lastQueryTime < (s.cfg.profile s.result.profile).minPeriodMs) ∧
    (t.state = .start ∧ (t.cfg.profile t.result.profile).minPeriodMs ≤ t.now - t.lastQueryTime) := by decide

theorem witness_ServiceInSendStartHoldsTheLine :
    let s := { sendStartState with now := 7041#32 }
    s.state = .sendStart ∧ s.now - s.stateTime < 18#32 := by decide

theorem witness_EndOfTheStartPulseForksOnTheAnswer :
    let s := { sendStartState with now := 7042#32, capOk := true }
    let t := { sendStartState with now := 7042#32, capOk := false }
    (s.state = .sendStart ∧ 18#32 ≤ s.now - s.stateTime ∧ s.capOk = true) ∧
    (t.state = .sendStart ∧ 18#32 ≤ t.now - t.stateTime ∧ t.capOk = false) := by decide

theorem witness_ServiceInSamplingWaitsForTheCapture :
    let s := { samplingState 1#8 with now := 7091#32 }
    s.state = .sampling ∧ s.capDone = false ∧ s.now - s.stateTime < s.cfg.sampleWaitMs := by decide

theorem witness_BoundedWaitCompletesWithError :
    let s := { samplingState 1#8 with now := 7092#32 }
    s.state = .sampling ∧ s.capDone = false ∧ s.cfg.sampleWaitMs ≤ s.now - s.stateTime := by decide

/-- A bad checksum with one attempt left, and a bad framing. -/
theorem witness_InvalidFrameWithBudgetLeftIsRetried :
    let s := capturedState v4 3#8 4#8
    s.state = .sampling ∧ s.capDone = true ∧ checksum (decodeBuffer s).2 = false ∧ s.result.tries.toNat < s.maxTries.toNat ∧
      (decodeBuffer (capturedState v5 3#8 4#8)).1 = false := by decide +kernel

theorem witness_InvalidFrameWithBudgetSpentCompletesWithTooManyRetries :
    let s := capturedState v4 4#8 4#8
    s.state = .sampling ∧ s.capDone = true ∧ checksum (decodeBuffer s).2 = false ∧ s.maxTries.toNat ≤ s.result.tries.toNat := by
  decide +kernel

theorem witness_ValidFrameCompletesWithSuccess :
    let s := capturedState v1 4#8 4#8
    s.state = .sampling ∧ s.capDone = true ∧ (decodeBuffer s).1 = true ∧ checksum (decodeBuffer s).2 = true := by decide +kernel

theorem witness_HardwareErrorIgnoresTheBudget :
    Instr.samplingTimeout ∈ [Instr.sendStartFail, .samplingTimeout] ∧ sendStartState.state = .sendStart ∧ ((samplingState 1#8).state = .sampling ∧ (samplingState 1#8).capDone = false) := by decide

theorem witness_DecodeRecoversTheSensorFrame : (List.replicate 40 (2, 4)).length = 40 := by decide

/-- The threshold of 95_test_vectors V11, which no run of the stream exceeds, and a frame that passes with threshold 0. -/
theorem witness_ThresholdEdges :
    (∀ run ∈ closedHighRuns (stream 16 v1), run ≤ 5) ∧ (decodeStream 0 (stream 16 v1)).1 = true := by decide +kernel

theorem witness_ChecksumRejectsEverySingleByteChange : checksum frame1 = true ∧ 4 < 5 ∧ 0x10#8 ≠ frame1.get 4 := by decide

theorem witness_InterpreterRangesFitTheResponse :
    (Sample.cleared .dht22).profile = .dht22 ∧ (Sample.cleared .dht11).profile = .dht11 := by decide

/-- SENDSTART.GO makes two calls and neither is a stop. -/
theorem witness_NoOperationWritesTheBuffer :
    exec .sendStartGo sendStartState = .next (nextOr (exec .sendStartGo sendStartState)) ∧
      (nextOr (exec .sendStartGo sendStartState)).out.calls = sendStartState.out.calls ++ [.gpioInput 7#8, .captureStart 7#8] ∧
      ExternalCall.captureStop ∉ [ExternalCall.gpioInput 7#8, .captureStart 7#8] := ⟨rfl, rfl, by decide⟩

theorem witness_CaptureStepFillsTheBufferAndSetsTheFlag :
    let s := { samplingState 1#8 with inited := true, moves := [.capture v1] }
    Inv s ∧ s.moves = .capture v1 :: [] ∧ s.capturing = true ∧ s.capDone = false ∧ s.inited = true ∧
      captureFits s.cfg v1 = true ∧ 271 < s.cfg.nSamples :=
  ⟨inv_sampling true _, rfl, rfl, rfl, rfl, by decide +kernel, by decide⟩

theorem witness_CaptureStepNeedsItsEnables :
    (¬(base.capturing = true ∧ base.capDone = false ∧ base.inited = true)) ∧
    (Inv { base with moves := [.capture v1] } ∧ { base with moves := [.capture v1] }.quiescent) ∧
    (let s := samplingState 1#8
     s.capturing = true ∧ s.capDone = false ∧ s.inited = true ∧ captureFits s.cfg [] = false) :=
  ⟨by decide, ⟨inv_base _, rfl⟩, by decide⟩

theorem witness_EveryStepKeepsTheInvariant :
    Inv (at' (capturedState v4 4#8 4#8) 7048#32 0x3000#16) ∧
      step (at' (capturedState v4 4#8 4#8) 7048#32 0x3000#16) =
        .next (nextOr (step (at' (capturedState v4 4#8 4#8) 7048#32 0x3000#16))) :=
  ⟨inv_captured4 (by decide) _, step_answers (by decide +kernel)⟩

/-- A SERVICE that ends an acquisition, and a REQUEST in flight. -/
theorem witness_CompletionEventsAreExactlyTheOutcomes :
    (at' (samplingState 1#8) 7092#32 0x3000#16).moves ≠ [] ∧
    (nextOr (step (at' (samplingState 1#8) 7092#32 0x3000#16))).out.completion ≠ none ∧
    (nextOr (step (at' (samplingState 1#8) 7050#32 0x2003#16))).out.completion ≠ none := by decide

theorem witness_CompletionCarriesTheStoredSample :
    Inv (at' (samplingState 1#8) 7092#32 0x3000#16) ∧
    (at' (samplingState 1#8) 7092#32 0x3000#16).nextIs .service 7092#32 true [] ∧
    nextHas (step (at' (samplingState 1#8) 7092#32 0x3000#16)) (fun t =>
      decide (t.out.completion = some ⟨.dht22, .error, 1#8, .zero⟩)) = true := ⟨inv_sampling true _, service_at _ _, by decide⟩

theorem witness_StateChangesOnlyAlongTheDiagram :
    ¬(at' base 0#32 0x2007#16).nextIsReset ∧ nextHas (step (at' base 0#32 0x2007#16)) (fun t => decide (t.state = .start)) = true ∧
    ¬(at' sendStartState 7042#32 0x3000#16).nextIsReset ∧
    nextHas (step (at' sendStartState 7042#32 0x3000#16)) (fun t => decide (t.state = .sampling)) = true :=
  ⟨no_reset_at _ _ _, by decide, no_reset_at _ _ _, by decide⟩

theorem witness_PinAndProfileAreLatchedInFlight :
    (at' (samplingState 1#8) 7050#32 0x2103#16).inFlight ∧ ¬(at' (samplingState 1#8) 7050#32 0x2103#16).nextIsReset ∧
    nextHas (step (at' (samplingState 1#8) 7050#32 0x2103#16)) (fun _ => true) = true := ⟨nofun, no_reset_at _ _ _, by decide⟩

theorem witness_OnlySetMaxTriesWritesTheSetting :
    ¬(at' base 0#32 0x3000#16).nextSetsMaxTries ∧ ¬(at' base 0#32 0x3000#16).nextIsReset ∧
    nextHas (step (at' base 0#32 0x3000#16)) (fun _ => true) = true :=
  ⟨no_setMaxTries_at _ _, no_reset_at _ _ _, by decide⟩

/-- SendStart is left, a REQUEST is accepted, and neither. -/
theorem witness_TriesCountTheAttempts :
    (Inv (at' sendStartState 7042#32 0x3000#16) ∧ (at' sendStartState 7042#32 0x3000#16).nextIsCommand ∧
      nextHas (step (at' sendStartState 7042#32 0x3000#16)) (fun t => decide (t.state ≠ .sendStart)) = true) ∧
    (Inv (at' base 0#32 0x2007#16) ∧ nextHas (step (at' base 0#32 0x2007#16)) (fun t => decide (t.state = .start)) = true) ∧
    (Inv (at' sendStartState 7041#32 0x3000#16) ∧
      nextHas (step (at' sendStartState 7041#32 0x3000#16)) (fun t => decide (t.state = .sendStart)) = true) :=
  ⟨⟨inv_sendStart _, ⟨_, _, _, _, rfl⟩, by decide⟩, ⟨inv_base _, by decide⟩, ⟨inv_sendStart _, by decide⟩⟩

/-- An attempt that ends in Idle, one that is retried, and one that goes on. -/
theorem witness_LastQueryTimeStampsTheEndOfAnAttempt :
    nextHas (step (at' (samplingState 1#8) 7092#32 0x3000#16)) (fun t => decide (t.state = .idle)) = true ∧
    nextHas (step (at' (capturedState v4 3#8 4#8) 7048#32 0x3000#16)) (fun t => decide (t.state = .start)) = true ∧
    nextHas (step (at' (samplingState 1#8) 7091#32 0x3000#16)) (fun t => decide (t.state = .sampling)) = true :=
  ⟨by decide, by decide +kernel, by decide⟩

theorem witness_StartPulseLastsAtLeast18Ms :
    Inv (at' sendStartState 7042#32 0x3000#16) ∧ ¬(at' sendStartState 7042#32 0x3000#16).nextIsReset ∧
    (at' sendStartState 7042#32 0x3000#16).lineDir = .output ∧
    nextHas (step (at' sendStartState 7042#32 0x3000#16)) (fun t => decide (t.lineDir = .input)) = true :=
  ⟨inv_sendStart _, no_reset_at _ _ _, rfl, by decide⟩

theorem witness_LineIsDrivenOnlyAfterTheMinimumInterval :
    (at' (startState .dht22 5024#32) 7024#32 0x3000#16).lineDir = .input ∧
    nextHas (step (at' (startState .dht22 5024#32) 7024#32 0x3000#16)) (fun t => decide (t.lineDir = .output)) = true := by decide

theorem witness_WithoutInitOnlyErrorCompletes :
    let s := at' { samplingState 1#8 with inited := false } 7092#32 0x3000#16
    Inv s ∧ s.inited = false ∧ s.nextIs .service 7092#32 true [] ∧
      nextHas (step s) (fun t => decide (t.out.completion ≠ none)) = true :=
  ⟨inv_sampling false _, rfl, service_at _ _, by decide⟩

theorem budget_captured4 : WithinBudget (at' (capturedState v4 4#8 4#8) 7048#32 0x3000#16) where
  made := fun _ => by show (4#8).toNat ≤ max 1 (4#8).toNat; decide
  left := by rintro (h | h) <;> cases h

/-- A step in flight that is no SETMAXTRIES, and a SETMAXTRIES in Idle. -/
theorem witness_EveryStepKeepsTheBudget :
    (let s := at' (capturedState v4 4#8 4#8) 7048#32 0x3000#16
     Inv s ∧ WithinBudget s ∧ (s.inFlight → ¬s.nextSetsMaxTries) ∧ nextHas (step s) (fun _ => true) = true) ∧
    (let s := at' base 100#32 0x4002#16
     Inv s ∧ WithinBudget s ∧ (s.inFlight → ¬s.nextSetsMaxTries) ∧ s.nextSetsMaxTries ∧
       nextHas (step s) (fun t => decide (t.maxTries = 2#8)) = true) :=
  ⟨⟨inv_captured4 (by decide) _, budget_captured4, fun _ => no_setMaxTries_at _ _, by decide +kernel⟩,
    ⟨inv_base _, ⟨fun h => absurd rfl h, by rintro (h | h) <;> cases h⟩, fun h => absurd rfl h,
      ⟨2#8, 100#32, true, [], _, rfl, by decide⟩, by decide⟩⟩

/-- The fourth of four attempts fails for good; the third is retried. -/
theorem witness_TooManyRetriesComesAtTheBudget :
    (let s := at' (capturedState v4 4#8 4#8) 7048#32 0x3000#16
     Inv s ∧ WithinBudget s ∧ s.nextIs .service 7048#32 true [] ∧
        nextHas (step s) (fun t => decide (t.out.completion.map (·.status) = some .tooManyRetries)) = true) ∧
    (let s := at' (capturedState v4 3#8 4#8) 7048#32 0x3000#16
     Inv s ∧ WithinBudget s ∧ s.state = .sampling ∧ nextHas (step s) (fun t => decide (t.state = .start)) = true) :=
  ⟨⟨inv_captured4 (by decide) _, budget_captured4, service_at _ _, by decide +kernel⟩,
    ⟨inv_captured4 (by decide) _,
      ⟨fun _ => by show (3#8).toNat ≤ max 1 (4#8).toNat; decide, by rintro (h | h) <;> cases h⟩, rfl, by decide +kernel⟩⟩

theorem budget_start (now : Time) : WithinBudget (at' (startState .dht22 5024#32) now 0x3000#16) where
  made := fun _ => by show (0#8).toNat ≤ max 1 (4#8).toNat; decide
  left := fun _ => by show (0#8).toNat < max 1 (4#8).toNat; decide

/-- The wait is just over in Start, in SendStart, and in Sampling by the bounded wait and by a capture. -/
theorem witness_ServicedWaitBringsTheEndNearer :
    (Inv (at' (startState .dht22 5024#32) 7024#32 0x3000#16) ∧
      WithinBudget (at' (startState .dht22 5024#32) 7024#32 0x3000#16) ∧
      (at' (startState .dht22 5024#32) 7024#32 0x3000#16).nextIs .service 7024#32 true [] ∧
      (at' (startState .dht22 5024#32) 7024#32 0x3000#16).waitOver 7024#32) ∧
    sendStartState.waitOver 7042#32 ∧ (samplingState 1#8).waitOver 7092#32 ∧ (capturedState v4 3#8 4#8).waitOver 7043#32 :=
  ⟨⟨inv_start _ _ _, budget_start _, service_at _ _, by show 2000#32 ≤ 7024#32 - 5024#32; decide⟩,
    by show 18#32 ≤ 7042#32 - 7024#32; decide, Or.inr (by show 50#32 ≤ 7092#32 - 7042#32; decide), Or.inl rfl⟩

/-- One serviced wait, the first of the run. -/
theorem witness_ServicedAcquisitionTerminates :
    let s := at' (startState .dht22 5024#32) 7024#32 0x3000#16
    let run : Nat → State := fun k => if k = 0 then s else nextOr (step s)
    Inv (run 0) ∧ WithinBudget (run 0) ∧
      (∀ k < 1, (run k).inFlight ∧ ¬(run k).nextSetsMaxTries ∧ step (run k) = .next (run (k + 1))) ∧
      [0].Pairwise (· < ·) ∧
      ∀ k ∈ [0], k < 1 ∧ ∃ now capOk rest, (run k).nextIs .service now capOk rest ∧ (run k).waitOver now := by
  refine ⟨inv_start _ _ _, budget_start _, fun k hk => ?_, by simp, fun k hk => ?_⟩
  · obtain rfl : k = 0 := by omega
    exact ⟨nofun, no_setMaxTries_at _ _, step_answers (by decide)⟩
  · obtain rfl : k = 0 := by simpa using hk
    exact ⟨by omega, _, _, _, service_at _ _, by show 2000#32 ≤ 7024#32 - 5024#32; decide⟩

end Sys2Proof.Tests
end

section
/-! The step and the parameters (00_scope R4, R10, R11; 10_state R41). -/

namespace Sys2Proof.Machine

/-- No transition of SERVICE writes the parameters. -/
@[simp] theorem takeTransition_cfg (tr : Transition) (s : State) : (takeTransition tr s).cfg = s.cfg := by
  cases tr with
  | svcIdle | startWait | sendStartWait | samplingWait => rfl
  | startGo => exact gpioOutputLow_cfg s
  | sendStartGo => exact leaveSendStart_cfg s
  | sendStartFail => simp [takeTransition, sendStartFail]
  | samplingTimeout => simp [takeTransition, samplingTimeout]
  | samplingRetry => exact decodeOrchestration_cfg s
  | samplingExhausted => simp [takeTransition, samplingExhausted]
  | samplingSuccess => simp [takeTransition, samplingSuccess]

@[simp] theorem reqAccept_cfg (pin : Byte) (p : Profile) (s : State) : (reqAccept pin p s).cfg = s.cfg := rfl

@[simp] theorem reqBusy_cfg (p : Profile) (s : State) : (reqBusy p s).cfg = s.cfg := rfl

/-- A host command keeps the parameters. -/
theorem command_keeps_cfg {w : CommandWord} {i : Instr} {s t : State} (hd : decodeCommand w = .ok i)
    (h : exec i s = .next t) : t.cfg = s.cfg := by
  rcases command_cases hd h with ⟨-, rfl⟩ | ⟨pin, p, -, -, rfl⟩ | ⟨pin, p, -, -, rfl⟩ | ⟨-, rfl⟩ | ⟨n, -, rfl⟩ |
    ⟨-, rfl⟩ <;> simp

/-- A reserved command word keeps the parameters. -/
theorem reservedCommand_keeps_cfg {s t : State} (h : reservedCommand s = .next t) : t.cfg = s.cfg := by
  cases h; rfl

/-- Settles O7: each kind of move keeps the parameters. -/
theorem parametersNeverChange : Obligations.ParametersNeverChange := by
  intro s t h
  rcases step_cases h with ⟨-, rfl⟩ | ⟨w, now, capOk, rest, i, -, hd, he⟩ | ⟨w, now, capOk, rest, e, -, -, he⟩ |
    ⟨words, rest, -, -, -, rfl⟩ | ⟨rest, -, rfl⟩
  · rfl
  · simpa using command_keeps_cfg hd he
  · simpa using reservedCommand_keeps_cfg he
  · rfl
  · simp

/-- Settles O4: the state `beginCommand` leaves is the one the statement writes out. -/
theorem stepRunsTheDecodedCommand : Obligations.StepRunsTheDecodedCommand := by
  intro s w now capOk rest i hm hd
  exact step_command hm hd

end Sys2Proof.Machine
end

section
/-! The reset state (10_state R50) and the invariant of reachable states, state by state of the acquisition: what a
transition must establish to enter a state with `Inv` (10_state R42). -/

namespace Sys2Proof.Machine

/-! ### The state after reset -/

/-- Settles O1: each register of `State.reset` is written out with the value of the reset table. -/
theorem resetStateHoldsTheSpecifiedValues : Obligations.ResetStateHoldsTheSpecifiedValues :=
  ⟨rfl, rfl, rfl, rfl, rfl, rfl, rfl, rfl, rfl, rfl, rfl, rfl, rfl, rfl, rfl⟩

/-- An Idle state has the invariant when its line and its peripheral are at rest and its Sample register is as reset
left it or holds the outcome of an attempt (10_state R42 (b), (f), (g)). -/
theorem inv_of_idle {s : State} (hcfg : s.cfg.wellFormed = true) (hwf : Memory.wf s.buf)
    (hfits : Memory.fits s.cfg s.buf) (hidle : s.state = .idle) (hcap : s.capturing = false)
    (hdir : s.lineDir = .input) (hlow : s.lineOut = .low) (hdone : s.capDone = true → s.inited = true)
    (hresult : s.result = .cleared .dht22 ∨ (1 ≤ s.result.tries.toNat ∧ s.result.status ≠ .busy ∧
      (s.result.status = .success → checksum s.result.bytes = true))) : Inv s where
  paramsOk := hcfg
  bufCanonical := hwf
  bufFits := hfits
  capturingInSampling := by simp [hcap]
  samplingCaptures := by simp [hidle]
  samplingTried := by simp [hidle]
  idleTried _ := hresult.symm.imp_left And.left
  inFlightError := by simp [hidle]
  lineDriven := by simp [hidle, hdir]
  doneInited := hdone
  successValid hs := by
    obtain hr | ⟨htried, -, hvalid⟩ := hresult
    · rw [hr] at hs; cases hs
    · exact ⟨hvalid hs, htried⟩
  exhaustedTried hs := by
    obtain hr | ⟨htried, -, -⟩ := hresult
    · rw [hr] at hs; cases hs
    · exact htried
  neverBusy := by
    obtain hr | ⟨-, hbusy, -⟩ := hresult
    · rw [hr]; nofun
    · exact hbusy
  lineNeverHigh := hlow
  triesBelowEnd := by simp [hidle]

/-- Settles O3: after reset the block is Idle with a cleared Sample register, and the buffer lists nothing. -/
theorem resetStateMeetsTheInvariant : Obligations.ResetStateMeetsTheInvariant :=
  inv_of_idle params_wellFormed reset_buf_wf (by simp [State.reset]) rfl rfl rfl rfl nofun (.inl rfl)

/-- The reset input keeps the invariant: the parameters stay, and the buffer given up keeps its form. -/
theorem resetBlock_keeps_inv {s : State} (h : Inv s) : Inv (resetBlock s) :=
  inv_of_idle h.paramsOk (wf_discardBuffer h.bufCanonical) (fits_discardBuffer h.bufFits) rfl rfl rfl rfl nofun
    (.inl rfl)

/-! ### The commands but SERVICE -/

theorem inv_respond {s : State} (h : Inv s) (v : ResponseWord) : Inv (respond v s) :=
  inv_of_same_registers h s.moves s.now s.capOk _

theorem beginCommand_keeps_inv {s : State} (h : Inv s) (now : Time) (ok : Bool) (rest : List Move) :
    Inv (beginCommand now ok rest s) :=
  inv_of_same_registers h rest now ok .quiet

theorem setInited_keeps_inv {s : State} (h : Inv s) : Inv { s with inited := true } :=
  { h with doneInited := fun _ => rfl }

theorem setMaxTries_keeps_inv {s : State} (h : Inv s) (n : Byte) : Inv { s with maxTries := n } :=
  { h with }

theorem reqBusy_keeps_inv {s : State} (h : Inv s) (p : Profile) : Inv (reqBusy p s) :=
  inv_of_same_registers h s.moves s.now s.capOk _

/-- An accepted REQUEST enters Start with a cleared Sample register. -/
theorem reqAccept_keeps_inv {s : State} (h : Inv s) (hidle : s.state = .idle) (pin : Byte) (p : Profile) :
    Inv (reqAccept pin p s) :=
  { h with
    capturingInSampling := fun hc => absurd ((h.capturingInSampling hc).symm.trans hidle) nofun
    samplingCaptures := nofun
    samplingTried := nofun
    idleTried := nofun
    inFlightError := fun _ => rfl
    lineDriven := ⟨fun hl => absurd ((h.lineDriven.mp hl).symm.trans hidle) nofun, nofun⟩
    successValid := nofun
    exhaustedTried := nofun
    neverBusy := nofun
    triesBelowEnd := fun _ => Nat.zero_le 254 }

/-! ### The transitions of SERVICE -/

/-- Entering SendStart drives the line low. -/
theorem startGo_keeps_inv {s : State} (h : Inv s) (hstart : s.state = .start) : Inv (startGo s) :=
  { h with
    capturingInSampling := fun hc => absurd ((h.capturingInSampling hc).symm.trans hstart) nofun
    samplingCaptures := nofun
    samplingTried := nofun
    idleTried := nofun
    inFlightError := fun _ => h.inFlightError (by simp [hstart])
    lineDriven := ⟨fun _ => rfl, fun _ => rfl⟩
    lineNeverHigh := rfl
    triesBelowEnd := fun _ => h.triesBelowEnd (.inl hstart) }

/-- The count of the attempt that leaves SendStart does not overflow (10_state R22). -/
theorem leaveSendStart_tries {s : State} (h : Inv s) (hs : s.state = .sendStart) :
    (leaveSendStart s).result.tries.toNat = s.result.tries.toNat + 1 := by
  have hbound := h.triesBelowEnd (.inr hs)
  rw [leaveSendStart_result, BitVec.toNat_add_of_lt] <;> simp
  omega

/-- Entering Sampling starts the peripheral, releases the line and counts the attempt. -/
theorem sendStartGo_keeps_inv {s : State} (h : Inv s) (hs : s.state = .sendStart) : Inv (sendStartGo s) := by
  have htried : 1 ≤ (leaveSendStart s).result.tries.toNat := by rw [leaveSendStart_tries h hs]; omega
  have herror : s.result.status = .error := h.inFlightError (by simp [hs])
  exact
  { paramsOk := by simpa [sendStartGo] using h.paramsOk
    bufCanonical := by simpa [sendStartGo] using h.bufCanonical
    bufFits := by simpa [sendStartGo] using h.bufFits
    capturingInSampling := fun _ => rfl
    samplingCaptures := fun _ => rfl
    samplingTried := fun _ => htried
    idleTried := nofun
    inFlightError := fun _ => by simpa [sendStartGo] using herror
    lineDriven := ⟨nofun, nofun⟩
    doneInited := nofun
    successValid := by simp [sendStartGo, herror]
    exhaustedTried := fun _ => htried
    neverBusy := by simp [sendStartGo, herror]
    lineNeverHigh := by simpa [sendStartGo] using h.lineNeverHigh
    triesBelowEnd := by rintro (h | h) <;> cases h }

/-- The completion sequence establishes the invariant when the line and the peripheral are at rest, an attempt was made and
the stored bytes bear the status out. -/
theorem raiseComplete_inv {s : State} {st : Status} (hcfg : s.cfg.wellFormed = true) (hwf : Memory.wf s.buf)
    (hfits : Memory.fits s.cfg s.buf) (hcap : s.capturing = false) (hdir : s.lineDir = .input)
    (hlow : s.lineOut = .low) (hdone : s.capDone = true → s.inited = true) (htried : 1 ≤ s.result.tries.toNat)
    (hbusy : st ≠ .busy) (hvalid : st = .success → checksum s.result.bytes = true) : Inv (raiseComplete st s) :=
  inv_of_idle hcfg hwf hfits rfl hcap hdir hlow hdone (.inr ⟨htried, hbusy, hvalid⟩)

/-- A failed start of the peripheral ends the attempt, which is counted. -/
theorem sendStartFail_keeps_inv {s : State} (h : Inv s) (hs : s.state = .sendStart) : Inv (sendStartFail s) := by
  have htried : 1 ≤ (captureStop (leaveSendStart s)).result.tries.toNat := by
    rw [captureStop_result, leaveSendStart_tries h hs]; omega
  have hcfg : (captureStop (leaveSendStart s)).cfg.wellFormed = true := by simpa using h.paramsOk
  have hlow : (captureStop (leaveSendStart s)).lineOut = .low := by simpa using h.lineNeverHigh
  exact raiseComplete_inv hcfg (wf_discardBuffer h.bufCanonical) (fits_discardBuffer h.bufFits) rfl rfl hlow
    nofun htried nofun nofun

/-- In Sampling the line is an input. -/
theorem sampling_line_input {s : State} (h : Inv s) (hs : s.state = .sampling) : s.lineDir = .input := by
  cases hl : s.lineDir with
  | input => rfl
  | output => exact absurd ((h.lineDriven.mp hl).symm.trans hs) nofun

theorem samplingTimeout_keeps_inv {s : State} (h : Inv s) (hs : s.state = .sampling) : Inv (samplingTimeout s) := by
  have hdir : s.lineDir = .input := sampling_line_input h hs
  exact raiseComplete_inv h.paramsOk (wf_discardBuffer h.bufCanonical) (fits_discardBuffer h.bufFits) rfl hdir
    h.lineNeverHigh h.doneInited (h.samplingTried hs) nofun nofun

/-- Both completions after a decode: the status is Success only over bytes that pass the checksum (10_state R42 (f)). -/
theorem decoded_completion_inv {s : State} {st : Status} (h : Inv s) (hs : s.state = .sampling) (hbusy : st ≠ .busy)
    (hvalid : st = .success → checksum (decodeBuffer s).2 = true) : Inv (raiseComplete st (decodeOrchestration s)) := by
  have hdir : s.lineDir = .input := sampling_line_input h hs
  exact raiseComplete_inv h.paramsOk (wf_discardBuffer h.bufCanonical) (fits_discardBuffer h.bufFits) rfl hdir
    h.lineNeverHigh h.doneInited (h.samplingTried hs) hbusy hvalid

/-- A retry re-enters Start with budget left, so the count is below the end of its range. -/
theorem samplingRetry_keeps_inv {s : State} (h : Inv s) (hs : s.state = .sampling) (hleft : budgetSpent s = false) :
    Inv (samplingRetry s) := by
  have herror : s.result.status = .error := h.inFlightError (by simp [hs])
  have hbelow : s.result.tries.toNat ≤ 254 := by
    have := budgetSpent_eq_false_iff.mp hleft
    have := s.maxTries.isLt
    omega
  exact
  { h with
    bufCanonical := wf_discardBuffer h.bufCanonical
    bufFits := fits_discardBuffer h.bufFits
    capturingInSampling := nofun
    samplingCaptures := nofun
    samplingTried := nofun
    idleTried := nofun
    inFlightError := fun _ => herror
    lineDriven := ⟨fun hl => absurd ((h.lineDriven.mp hl).symm.trans hs) nofun, nofun⟩
    successValid := fun he => absurd (herror.symm.trans he) nofun
    triesBelowEnd := fun _ => hbelow }

end Sys2Proof.Machine
end

section
/-! What a SERVICE and a command word can do to the registers, said once (41 R155), and the statements that follow:
the invariant of reachable states and the writers of three registers (10_state R22, R27, R29, R42). -/

namespace Sys2Proof.Machine

/-! ### SERVICE -/

/-- What a SERVICE can do: wait, or one of the seven transitions that change a register. -/
theorem service_cases (s : State) :
    takeTransition (selector s).transition s = s ∨
    (s.state = .start ∧ gateOpen s = true ∧ takeTransition (selector s).transition s = startGo s) ∨
    (s.state = .sendStart ∧ pulseDone s = true ∧ s.capOk = true ∧
      takeTransition (selector s).transition s = sendStartGo s) ∨
    (s.state = .sendStart ∧ pulseDone s = true ∧ s.capOk = false ∧
      takeTransition (selector s).transition s = sendStartFail s) ∨
    (s.state = .sampling ∧ s.capDone = false ∧ waitExpired s = true ∧
      takeTransition (selector s).transition s = samplingTimeout s) ∨
    (s.state = .sampling ∧ s.capDone = true ∧ frameValid s = false ∧ budgetSpent s = false ∧
      takeTransition (selector s).transition s = samplingRetry s) ∨
    (s.state = .sampling ∧ s.capDone = true ∧ frameValid s = false ∧ budgetSpent s = true ∧
      takeTransition (selector s).transition s = samplingExhausted s) ∨
    (s.state = .sampling ∧ s.capDone = true ∧ frameValid s = true ∧
      takeTransition (selector s).transition s = samplingSuccess s) := by
  have hrun {tr : Transition} (ht : (selector s).transition = tr) :
      takeTransition (selector s).transition s = takeTransition tr s := by rw [ht]
  rcases selected_cases s with ⟨-, ht⟩ | ⟨-, -, ht⟩ | ⟨hs, hg, ht⟩ | ⟨-, -, ht⟩ | ⟨hs, hp, hok, ht⟩ |
    ⟨hs, hp, hok, ht⟩ | ⟨-, -, -, ht⟩ | ⟨hs, hd, hw, ht⟩ | ⟨hs, hd, hf, hb, ht⟩ | ⟨hs, hd, hf, hb, ht⟩ | ⟨hs, hd, hf, ht⟩
  · exact .inl (hrun ht)
  · exact .inl (hrun ht)
  · exact .inr (.inl ⟨hs, hg, hrun ht⟩)
  · exact .inl (hrun ht)
  · exact .inr (.inr (.inl ⟨hs, hp, hok, hrun ht⟩))
  · exact .inr (.inr (.inr (.inl ⟨hs, hp, hok, hrun ht⟩)))
  · exact .inl (hrun ht)
  · exact .inr (.inr (.inr (.inr (.inl ⟨hs, hd, hw, hrun ht⟩))))
  · exact .inr (.inr (.inr (.inr (.inr (.inl ⟨hs, hd, hf, hb, hrun ht⟩)))))
  · exact .inr (.inr (.inr (.inr (.inr (.inr (.inl ⟨hs, hd, hf, hb, hrun ht⟩))))))
  · exact .inr (.inr (.inr (.inr (.inr (.inr (.inr ⟨hs, hd, hf, hrun ht⟩))))))

/-- The selected transition keeps the invariant. -/
theorem service_keeps_inv {s : State} (h : Inv s) : Inv (takeTransition (selector s).transition s) := by
  rcases service_cases s with ht | ⟨hs, -, ht⟩ | ⟨hs, -, -, ht⟩ | ⟨hs, -, -, ht⟩ | ⟨hs, -, -, ht⟩ | ⟨hs, -, -, hleft, ht⟩ |
    ⟨hs, -, -, -, ht⟩ | ⟨hs, -, hvalid, ht⟩ <;> rw [ht]
  · exact h
  · exact startGo_keeps_inv h hs
  · exact sendStartGo_keeps_inv h hs
  · exact sendStartFail_keeps_inv h hs
  · exact samplingTimeout_keeps_inv h hs
  · exact samplingRetry_keeps_inv h hs hleft
  · exact decoded_completion_inv h hs nofun nofun
  · exact decoded_completion_inv h hs nofun fun _ => (frameValid_iff.mp hvalid).2

/-- A SERVICE counts an attempt exactly when it leaves SendStart, and does not go from Idle to Start. -/
theorem service_tries {s : State} (h : Inv s) :
    (takeTransition (selector s).transition s).result.tries.toNat =
      if s.state = .sendStart ∧ (takeTransition (selector s).transition s).state ≠ .sendStart then
        s.result.tries.toNat + 1
      else if s.state = .idle ∧ (takeTransition (selector s).transition s).state = .start then 0
      else s.result.tries.toNat := by
  rcases service_cases s with ht | ⟨hs, -, ht⟩ | ⟨hs, -, -, ht⟩ | ⟨hs, -, -, ht⟩ | ⟨hs, -, -, ht⟩ | ⟨hs, -, -, -, ht⟩ |
    ⟨hs, -, -, -, ht⟩ | ⟨hs, -, -, ht⟩ <;> rw [ht]
  · rw [if_neg fun hleft => hleft.2 hleft.1, if_neg]
    rintro ⟨hidle, hstart⟩
    cases hidle.symm.trans hstart
  · simp [hs, startGo]
  · rw [if_pos ⟨hs, nofun⟩]; exact leaveSendStart_tries h hs
  · rw [if_pos ⟨hs, nofun⟩]; exact leaveSendStart_tries h hs
  · simp [hs, samplingTimeout]
  · simp [hs, samplingRetry]
  · simp [hs, samplingExhausted]
  · simp [hs, samplingSuccess]

/-- A SERVICE stamps the time exactly when it ends an attempt. -/
theorem service_lastQueryTime (s : State) :
    (takeTransition (selector s).transition s).lastQueryTime =
      if (s.state = .sendStart ∨ s.state = .sampling) ∧
          ((takeTransition (selector s).transition s).state = .idle ∨
            (takeTransition (selector s).transition s).state = .start) then s.now else s.lastQueryTime := by
  rcases service_cases s with ht | ⟨hs, -, ht⟩ | ⟨hs, -, -, ht⟩ | ⟨hs, -, -, ht⟩ | ⟨hs, -, -, ht⟩ | ⟨hs, -, -, -, ht⟩ |
    ⟨hs, -, -, -, ht⟩ | ⟨hs, -, -, ht⟩ <;> rw [ht]
  · rw [if_neg]; rintro ⟨h1 | h1, h2 | h2⟩ <;> cases h1.symm.trans h2
  · simp [hs, startGo]
  · simp [hs, sendStartGo]
  · simp [hs, sendStartFail]
  · simp [hs, samplingTimeout]
  · simp [hs, samplingRetry]
  · simp [hs, samplingExhausted]
  · simp [hs, samplingSuccess]

/-- No transition of SERVICE writes `max_tries`. -/
@[simp] theorem takeTransition_maxTries (tr : Transition) (s : State) :
    (takeTransition tr s).maxTries = s.maxTries := by
  cases tr with
  | svcIdle | startWait | sendStartWait | samplingWait => rfl
  | startGo => exact gpioOutputLow_maxTries s
  | sendStartGo => exact leaveSendStart_maxTries s
  | sendStartFail => simp [takeTransition, sendStartFail]
  | samplingTimeout => simp [takeTransition, samplingTimeout]
  | samplingRetry => exact decodeOrchestration_maxTries s
  | samplingExhausted => simp [takeTransition, samplingExhausted]
  | samplingSuccess => simp [takeTransition, samplingSuccess]

/-! ### Command words -/

/-- What a command word, reserved or not, can do to the acquisition: a REQUEST is accepted, a SERVICE takes its transition,
and any other keeps the state, the Sample register and the time of the last query. -/
theorem command_word_cases {s t : State} {w : CommandWord} {now : Time} {ok : Bool} {rest : List Move}
    (hm : s.moves = .command w now ok :: rest) (h : step s = .next t) :
    (∃ pin p, s.state = .idle ∧ t = respond noResponse (reqAccept pin p (beginCommand now ok rest s))) ∨
    t = respond noResponse (takeTransition (selector (beginCommand now ok rest s)).transition
      (beginCommand now ok rest s)) ∨
    (t.state = s.state ∧ t.result = s.result ∧ t.lastQueryTime = s.lastQueryTime) := by
  have hr : ¬s.nextIsReset := nextIsCommand_not_reset ⟨w, now, ok, rest, hm⟩
  rcases step_cases_not_reset hr h with ⟨hm', -⟩ | ⟨w', now', ok', rest', i, hm', hd, -, he⟩ | ⟨_, _, _, _, -, rfl⟩ |
    ⟨words, rest', hm', -⟩
  · cases hm.symm.trans hm'
  · cases hm.symm.trans hm'
    rcases command_cases hd he with ⟨-, rfl⟩ | ⟨pin, p, -, hidle, rfl⟩ | ⟨pin, p, -, -, rfl⟩ | ⟨-, rfl⟩ | ⟨n, -, rfl⟩ | ⟨-, rfl⟩
    · exact .inr (.inr ⟨rfl, rfl, rfl⟩)
    · exact .inl ⟨pin, p, hidle, rfl⟩
    · exact .inr (.inr ⟨rfl, rfl, rfl⟩)
    · exact .inr (.inl rfl)
    · exact .inr (.inr ⟨rfl, rfl, rfl⟩)
    · exact .inr (.inr ⟨rfl, rfl, rfl⟩)
  · exact .inr (.inr ⟨rfl, rfl, rfl⟩)
  · cases hm.symm.trans hm'

/-- A host command keeps the invariant. -/
theorem command_keeps_inv {w : CommandWord} {i : Instr} {s t : State} (hd : decodeCommand w = .ok i)
    (he : exec i s = .next t) (h : Inv s) : Inv t := by
  rcases command_cases hd he with ⟨-, rfl⟩ | ⟨pin, p, -, hidle, rfl⟩ | ⟨pin, p, -, -, rfl⟩ | ⟨-, rfl⟩ | ⟨n, -, rfl⟩ | ⟨-, rfl⟩
  · exact inv_respond (setInited_keeps_inv h) _
  · exact inv_respond (reqAccept_keeps_inv h hidle pin p) _
  · exact inv_respond (reqBusy_keeps_inv h p) _
  · exact inv_respond (service_keeps_inv h) _
  · exact inv_respond (setMaxTries_keeps_inv h n) _
  · exact inv_respond h _

/-- A host command other than SETMAXTRIES keeps `max_tries`. -/
theorem command_keeps_maxTries {w : CommandWord} {i : Instr} {s t : State} (hd : decodeCommand w = .ok i)
    (he : exec i s = .next t) (hset : ∀ n, i ≠ .setMaxTries n) : t.maxTries = s.maxTries := by
  rcases command_cases hd he with ⟨-, rfl⟩ | ⟨pin, p, -, -, rfl⟩ | ⟨pin, p, -, -, rfl⟩ | ⟨-, rfl⟩ | ⟨n, rfl, -⟩ | ⟨-, rfl⟩
  · rfl
  · rfl
  · rfl
  · exact takeTransition_maxTries _ s
  · exact absurd rfl (hset n)
  · rfl

/-- The capture peripheral's step keeps the invariant: it is enabled after INIT only, and what it delivers fits. -/
theorem capture_keeps_inv {s : State} {words : List Nat} (h : Inv s) (hen : s.captureEnabled = true)
    (hfit : captureFits s.cfg words = true) (rest : List Move) :
    Inv { s with moves := rest, buf := Memory.fill s.buf words, capDone := true, out := .quiet } := by
  obtain ⟨-, -, hinit⟩ := captureEnabled_iff.mp hen
  exact { h with
    bufCanonical := wf_fill h.bufCanonical words
    bufFits := fits_fill h.bufFits hfit
    doneInited := fun _ => hinit }

/-! ### The statements -/

/-- Settles O46: each kind of move keeps the invariant. -/
theorem everyStepKeepsTheInvariant : Obligations.EveryStepKeepsTheInvariant := by
  intro s t h hstep
  rcases step_cases hstep with ⟨-, rfl⟩ | ⟨w, now, ok, rest, i, -, hd, he⟩ | ⟨w, now, ok, rest, e, -, -, he⟩ |
    ⟨words, rest, -, hen, hfit, rfl⟩ | ⟨rest, -, rfl⟩
  · exact h
  · exact command_keeps_inv hd he (beginCommand_keeps_inv h now ok rest)
  · cases he
    exact inv_of_same_registers h rest now ok _
  · exact capture_keeps_inv h hen hfit rest
  · exact resetBlock_keeps_inv (inv_of_same_registers h rest s.now s.capOk s.out)

/-- Settles O51: of the moves that are no reset, SETMAXTRIES alone writes the setting. -/
theorem onlySetMaxTriesWritesTheSetting : Obligations.OnlySetMaxTriesWritesTheSetting := by
  intro s t hset hreset hstep
  rcases step_cases_not_reset hreset hstep with ⟨-, rfl⟩ | ⟨w, now, ok, rest, i, -, hd, hnext, he⟩ | ⟨_, _, _, _, -, rfl⟩ |
    ⟨_, _, -, -, -, rfl⟩
  · rfl
  · have hother : ∀ n, i ≠ .setMaxTries n := by
      rintro n rfl
      exact hset ⟨n, now, ok, rest, hnext⟩
    exact (command_keeps_maxTries hd he hother).trans (beginCommand_maxTries s now ok rest)
  · rfl
  · rfl

/-- Settles O52: an accepted REQUEST clears the count, a SERVICE raises it where it leaves SendStart. -/
theorem triesCountTheAttempts : Obligations.TriesCountTheAttempts := by
  rintro s t hinv ⟨w, now, ok, rest, hm⟩ hstep
  rcases command_word_cases hm hstep with ⟨pin, p, hidle, rfl⟩ | rfl | ⟨hstate, hresult, -⟩
  · rw [if_neg (by simp [hidle]), if_pos ⟨hidle, rfl⟩]; rfl
  · exact service_tries (beginCommand_keeps_inv hinv now ok rest)
  · rw [hresult, hstate, if_neg fun hleft => hleft.2 hleft.1, if_neg]
    rintro ⟨hidle, hstart⟩
    cases hidle.symm.trans hstart

/-- Settles O53: of the command words, a SERVICE alone stamps the time, where it ends an attempt. -/
theorem lastQueryTimeStampsTheEndOfAnAttempt : Obligations.LastQueryTimeStampsTheEndOfAnAttempt := by
  intro s t w now ok rest hm hstep
  rcases command_word_cases hm hstep with ⟨pin, p, hidle, rfl⟩ | rfl | ⟨hstate, -, htime⟩
  · rw [if_neg (by simp [hidle])]; rfl
  · exact service_lastQueryTime (beginCommand now ok rest s)
  · rw [htime, hstate, if_neg]
    rintro ⟨h1 | h1, h2 | h2⟩ <;> cases h1.symm.trans h2

end Sys2Proof.Machine
end

section
/-! The raw capture buffer and the latched request (20_memory R67, R75, R77; 10_state R25, R26): which calls an operation
makes and what it does to the buffer, and that a command in flight keeps pin and profile. -/

namespace Sys2Proof.Machine

/-! ### The buffer -/

/-- From `s` to `t` calls are only added, and the buffer is as before unless `Capture.stop` is among them. -/
def BufferKeptUnlessStopped (s t : State) : Prop :=
  ∃ cs, t.out.calls = s.out.calls ++ cs ∧ (.captureStop ∉ cs → t.buf = s.buf)

theorem bufferKept_of_same {s t : State} (hcalls : t.out.calls = s.out.calls) (hbuf : t.buf = s.buf) :
    BufferKeptUnlessStopped s t :=
  ⟨[], by simp [hcalls], fun _ => hbuf⟩

/-- After `Capture.stop` nothing is claimed of the buffer (log 7). -/
theorem bufferKept_of_stop {s t : State} {cs : List ExternalCall} (hcalls : t.out.calls = s.out.calls ++ cs)
    (hstop : .captureStop ∈ cs) : BufferKeptUnlessStopped s t :=
  ⟨cs, hcalls, fun hno => absurd hstop hno⟩

theorem bufferKept_respond {s t : State} (h : BufferKeptUnlessStopped s t) (v : ResponseWord) :
    BufferKeptUnlessStopped s (respond v t) := h

theorem reqAccept_keeps_buffer (pin : Byte) (p : Profile) (s : State) :
    BufferKeptUnlessStopped s (reqAccept pin p s) := bufferKept_of_same rfl rfl

theorem reqBusy_keeps_buffer (p : Profile) (s : State) : BufferKeptUnlessStopped s (reqBusy p s) :=
  bufferKept_of_same rfl rfl

/-- A transition that touches the buffer ends in `Capture.stop`: a failed start, a timeout, a decode. -/
theorem takeTransition_keeps_buffer (tr : Transition) (s : State) :
    BufferKeptUnlessStopped s (takeTransition tr s) := by
  cases tr with
  | svcIdle | startWait | sendStartWait | samplingWait => exact bufferKept_of_same rfl rfl
  | startGo => exact ⟨[.gpioOutputLow s.pin], rfl, fun _ => rfl⟩
  | sendStartGo =>
    exact ⟨[.gpioInput s.pin, .captureStart s.pin], by simp [takeTransition, sendStartGo], fun _ => rfl⟩
  | sendStartFail =>
    exact bufferKept_of_stop (cs := [.gpioInput s.pin, .captureStart s.pin, .captureStop])
      (by simp [takeTransition, sendStartFail]) (by simp)
  | samplingTimeout | samplingRetry | samplingExhausted | samplingSuccess =>
    exact bufferKept_of_stop (cs := [.captureStop]) rfl (by simp)

/-- The 29 operations by what they share: the queries, the transitions of SERVICE, and the six others. -/
theorem operation_cases (i : Instr) :
    isQuery i = true ∨ (∃ tr : Transition, i = tr.toInstr) ∨ i = .service ∨ (∃ pin p, i = .request pin p) ∨
    i = .init ∨ (∃ n, i = .setMaxTries n) ∨ (∃ pin p, i = .reqAccept pin p) ∨ ∃ p, i = .reqBusy p := by
  cases i with
  | canStart | getResult | isSuccess | isBusy | isError | isTooManyRetries | getTempC | getTempF | getHumidity
  | getDewPointC | getDewPointF | getTries => exact .inl rfl
  | svcIdle => exact .inr (.inl ⟨.svcIdle, rfl⟩)
  | startWait => exact .inr (.inl ⟨.startWait, rfl⟩)
  | startGo => exact .inr (.inl ⟨.startGo, rfl⟩)
  | sendStartWait => exact .inr (.inl ⟨.sendStartWait, rfl⟩)
  | sendStartGo => exact .inr (.inl ⟨.sendStartGo, rfl⟩)
  | sendStartFail => exact .inr (.inl ⟨.sendStartFail, rfl⟩)
  | samplingWait => exact .inr (.inl ⟨.samplingWait, rfl⟩)
  | samplingTimeout => exact .inr (.inl ⟨.samplingTimeout, rfl⟩)
  | samplingRetry => exact .inr (.inl ⟨.samplingRetry, rfl⟩)
  | samplingExhausted => exact .inr (.inl ⟨.samplingExhausted, rfl⟩)
  | samplingSuccess => exact .inr (.inl ⟨.samplingSuccess, rfl⟩)
  | service | request | init | setMaxTries | reqAccept | reqBusy => simp

/-- No operation writes the buffer, short of giving it up (20_memory R67, R77). -/
theorem exec_keeps_buffer {i : Instr} {s t : State} (h : exec i s = .next t) : BufferKeptUnlessStopped s t := by
  rcases operation_cases i with hq | ⟨tr, rfl⟩ | rfl | ⟨pin, p, rfl⟩ | rfl | ⟨n, rfl⟩ | ⟨pin, p, rfl⟩ | ⟨p, rfl⟩
  · rw [exec_query hq] at h; cases h
    exact bufferKept_of_same rfl rfl
  · rw [exec_transition] at h; cases h
    exact takeTransition_keeps_buffer tr s
  · rw [exec_service] at h; cases h
    exact bufferKept_respond (takeTransition_keeps_buffer _ s) _
  · cases h
    refine bufferKept_respond ?_ noResponse
    split
    · exact reqAccept_keeps_buffer pin p s
    · exact reqBusy_keeps_buffer p s
  · cases h; exact bufferKept_of_same rfl rfl
  · cases h; exact bufferKept_of_same rfl rfl
  · cases h; exact reqAccept_keeps_buffer pin p s
  · cases h; exact reqBusy_keeps_buffer p s

/-! ### Pin and profile -/

/-- No transition of SERVICE writes `pin`. -/
@[simp] theorem takeTransition_pin (tr : Transition) (s : State) : (takeTransition tr s).pin = s.pin := by
  cases tr with
  | svcIdle | startWait | sendStartWait | samplingWait => rfl
  | startGo => exact gpioOutputLow_pin s
  | sendStartGo => exact leaveSendStart_pin s
  | sendStartFail => simp [takeTransition, sendStartFail]
  | samplingTimeout => simp [takeTransition, samplingTimeout]
  | samplingRetry => exact decodeOrchestration_pin s
  | samplingExhausted => simp [takeTransition, samplingExhausted]
  | samplingSuccess => simp [takeTransition, samplingSuccess]

/-- No transition of SERVICE writes `profile`: each keeps the Sample register but for status, count and bytes. -/
@[simp] theorem takeTransition_profile (tr : Transition) (s : State) :
    (takeTransition tr s).result.profile = s.result.profile := by
  cases tr with
  | svcIdle | startWait | startGo | sendStartWait | samplingWait => rfl
  | sendStartGo => simp [takeTransition, sendStartGo]
  | sendStartFail => simp [takeTransition, sendStartFail]
  | samplingTimeout => simp [takeTransition, samplingTimeout]
  | samplingRetry => simp [takeTransition, samplingRetry]
  | samplingExhausted => simp [takeTransition, samplingExhausted]
  | samplingSuccess => simp [takeTransition, samplingSuccess]

/-- A host command in flight keeps pin and profile: the one that writes them, an accepted REQUEST, needs Idle. -/
theorem command_inFlight_keeps_latches {w : CommandWord} {i : Instr} {s t : State} (hd : decodeCommand w = .ok i)
    (he : exec i s = .next t) (hflight : s.inFlight) : t.pin = s.pin ∧ t.result.profile = s.result.profile := by
  rcases command_cases hd he with ⟨-, rfl⟩ | ⟨pin, p, -, hidle, -⟩ | ⟨pin, p, -, -, rfl⟩ | ⟨-, rfl⟩ | ⟨n, -, rfl⟩ | ⟨-, rfl⟩
  · exact ⟨rfl, rfl⟩
  · exact absurd hidle hflight
  · exact ⟨rfl, rfl⟩
  · exact ⟨takeTransition_pin _ s, takeTransition_profile _ s⟩
  · exact ⟨rfl, rfl⟩
  · exact ⟨rfl, rfl⟩

/-! ### The statements -/

/-- Settles O43: a buffer that is kept reads as before at every word. -/
theorem noOperationWritesTheBuffer : Obligations.NoOperationWritesTheBuffer := by
  intro i s t h
  obtain ⟨cs, hcalls, hkept⟩ := exec_keeps_buffer h
  exact ⟨cs, hcalls, fun hno w => by rw [hkept hno]⟩

/-- Settles O50: of the steps that are no reset, a command alone could write the two registers, and in flight none does. -/
theorem pinAndProfileAreLatchedInFlight : Obligations.PinAndProfileAreLatchedInFlight := by
  intro s t hflight hreset hstep
  rcases step_cases_not_reset hreset hstep with ⟨-, rfl⟩ | ⟨w, now, ok, rest, i, -, hd, -, he⟩ | ⟨_, _, _, _, -, rfl⟩ |
    ⟨_, _, -, -, -, rfl⟩
  · exact ⟨rfl, rfl⟩
  · have hbegun : (beginCommand now ok rest s).inFlight := hflight
    simpa using command_inFlight_keeps_latches hd he hbegun
  · exact ⟨rfl, rfl⟩
  · exact ⟨rfl, rfl⟩

end Sys2Proof.Machine
end

section
/-! The encodings of commands, selectors and request selectors (30_encoding R81 to R85, R94 to R97, R102): decoder and
encoder are inverse to each other, and the rows of the opcode table say which words the decoder reads as what. -/

namespace Sys2Proof.Machine

/-! ### Decoding an encoded operation -/

theorem decodeCommand_of_request_fields {w : CommandWord} (hop : w.extractLsb' 12 4 = 0x2#4)
    (hzero : w.extractLsb' 9 3 = 0#3) :
    decodeCommand w = .ok (.request (w.extractLsb' 0 8) (.ofCode (w.extractLsb' 8 1))) := by
  simp [decodeCommand, whenZero, hop, hzero]

theorem decodeCommand_of_setMaxTries_fields {w : CommandWord} (hop : w.extractLsb' 12 4 = 0x4#4)
    (hzero : w.extractLsb' 8 4 = 0#4) : decodeCommand w = .ok (.setMaxTries (w.extractLsb' 0 8)) := by
  simp [decodeCommand, whenZero, hop, hzero]

theorem decodeCommand_request (pin : Byte) (p : Profile) :
    decodeCommand (0x2#4 ++ 0#3 ++ p.code ++ pin) = .ok (.request pin p) := by
  have hop : (0x2#4 ++ 0#3 ++ p.code ++ pin).extractLsb' 12 4 = 0x2#4 := by
    iterate 3 rw [extract_high (by decide)]
    exact extract_all _
  have hzero : (0x2#4 ++ 0#3 ++ p.code ++ pin).extractLsb' 9 3 = 0#3 := by
    iterate 2 rw [extract_high (by decide)]
    exact BitVec.extractLsb'_append_eq_right
  have hprofile : (0x2#4 ++ 0#3 ++ p.code ++ pin).extractLsb' 8 1 = p.code := by
    rw [extract_high (by decide)]
    exact BitVec.extractLsb'_append_eq_right
  have hpin : (0x2#4 ++ 0#3 ++ p.code ++ pin).extractLsb' 0 8 = pin := BitVec.extractLsb'_append_eq_right
  rw [decodeCommand_of_request_fields hop hzero, hprofile, hpin, profile_ofCode_code]

theorem decodeCommand_setMaxTries (n : Byte) : decodeCommand (0x4#4 ++ 0#4 ++ n) = .ok (.setMaxTries n) := by
  have hop : (0x4#4 ++ 0#4 ++ n).extractLsb' 12 4 = 0x4#4 := by
    iterate 2 rw [extract_high (by decide)]
    exact extract_all _
  have hzero : (0x4#4 ++ 0#4 ++ n).extractLsb' 8 4 = 0#4 := by
    rw [extract_high (by decide)]
    exact BitVec.extractLsb'_append_eq_right
  have hn : (0x4#4 ++ 0#4 ++ n).extractLsb' 0 8 = n := BitVec.extractLsb'_append_eq_right
  rw [decodeCommand_of_setMaxTries_fields hop hzero, hn]

/-- Settles O9: an operation without operands has one fixed word, which the decoder evaluates; the four with operands
give back each field of their word. -/
theorem decodeOfEncodeIsTheInstruction : Obligations.DecodeOfEncodeIsTheInstruction := by
  intro i
  cases i with
  | request pin p => exact decodeCommand_request pin p
  | setMaxTries n => exact decodeCommand_setMaxTries n
  | reqAccept pin p => simp [encode, decode, decodeRequestSelector]
  | reqBusy p => simp [encode, decode, decodeRequestSelector]
  | init | service | canStart | getResult | isSuccess | isBusy | isError | isTooManyRetries | getTempC | getTempF
  | getHumidity | getDewPointC | getDewPointF | getTries | svcIdle | startWait | startGo | sendStartWait | sendStartGo
  | sendStartFail | samplingWait | samplingTimeout | samplingRetry | samplingExhausted | samplingSuccess => rfl

/-- Settles O8: the decoder evaluates each of the words the spec lists. -/
theorem specWordsDecodeAsTheSpecSays : Obligations.SpecWordsDecodeAsTheSpecSays := by
  unfold Obligations.SpecWordsDecodeAsTheSpecSays
  decide

/-! ### Encoding a decoded command word -/

/-- Two neighbouring fields are the wider field, the upper one given by where it starts. -/
theorem append_adjacent {w start mid m k : Nat} (x : BitVec w) (h : mid = start + m) :
    x.extractLsb' mid k ++ x.extractLsb' start m = x.extractLsb' start (k + m) := by
  rw [h, extract_glue]

/-- The word of an operation without operands (30_encoding R81, R82). -/
theorem encode_of_op {w : CommandWord} {op : BitVec 4} {i : Instr} (hop : w.extractLsb' 12 4 = op)
    (hzero : w.extractLsb' 0 12 = 0#12) (henc : encode i = .cmd (op ++ 0#12)) : encode i = .cmd w := by
  rw [henc, ← hop, ← hzero]
  simp (disch := rfl) only [append_adjacent]
  exact congrArg OpWord.cmd (extract_all w)

/-- The word of a REQUEST (30_encoding R83). -/
theorem encode_of_request_fields {w : CommandWord} (hop : w.extractLsb' 12 4 = 0x2#4)
    (hzero : w.extractLsb' 9 3 = 0#3) :
    encode (.request (w.extractLsb' 0 8) (.ofCode (w.extractLsb' 8 1))) = .cmd w := by
  simp only [encode, profile_code_ofCode, ← hop, ← hzero]
  simp (disch := rfl) only [append_adjacent]
  exact congrArg OpWord.cmd (extract_all w)

/-- The word of a SETMAXTRIES (30_encoding R84). -/
theorem encode_of_setMaxTries_fields {w : CommandWord} (hop : w.extractLsb' 12 4 = 0x4#4)
    (hzero : w.extractLsb' 8 4 = 0#4) : encode (.setMaxTries (w.extractLsb' 0 8)) = .cmd w := by
  simp only [encode, ← hop, ← hzero]
  simp (disch := rfl) only [append_adjacent]
  exact congrArg OpWord.cmd (extract_all w)

theorem encode_of_decodeAccessor {sel : BitVec 4} {i : Instr} (h : decodeAccessor sel = .ok i) :
    encode i = .cmd (0x7#4 ++ 0#8 ++ sel) := by
  unfold decodeAccessor at h
  iterate 10
    split at h
    · rename_i hsel; subst hsel; cases h; rfl
  cases h

/-- The word of an accessor (30_encoding R85). -/
theorem encode_of_accessor_fields {w : CommandWord} {i : Instr} (hop : w.extractLsb' 12 4 = 0x7#4)
    (hzero : w.extractLsb' 4 8 = 0#8) (h : decodeAccessor (w.extractLsb' 0 4) = .ok i) : encode i = .cmd w := by
  rw [encode_of_decodeAccessor h, ← hop, ← hzero]
  simp (disch := rfl) only [append_adjacent]
  exact congrArg OpWord.cmd (extract_all w)

/-- Settles O10: along the decoder's own branches, the operation field, the must-be-zero bits and the operand fields are
all the bits of the word. -/
theorem commandWordIsTheEncodingOfItsMeaning : Obligations.CommandWordIsTheEncodingOfItsMeaning := by
  intro w i h
  simp only [decodeCommand] at h
  split at h
  · next hop => obtain ⟨hz, hi⟩ := whenZero_ok h; cases hi; exact encode_of_op hop hz rfl
  split at h
  · next hop => obtain ⟨hz, hi⟩ := whenZero_ok h; cases hi; exact encode_of_request_fields hop hz
  split at h
  · next hop => obtain ⟨hz, hi⟩ := whenZero_ok h; cases hi; exact encode_of_op hop hz rfl
  split at h
  · next hop => obtain ⟨hz, hi⟩ := whenZero_ok h; cases hi; exact encode_of_setMaxTries_fields hop hz
  split at h
  · next hop => obtain ⟨hz, hi⟩ := whenZero_ok h; cases hi; exact encode_of_op hop hz rfl
  split at h
  · next hop => obtain ⟨hz, hi⟩ := whenZero_ok h; cases hi; exact encode_of_op hop hz rfl
  split at h
  · next hop => obtain ⟨hz, hi⟩ := whenZero_ok h; exact encode_of_accessor_fields hop hz hi
  · cases h

/-! ### The rows of the opcode table -/

/-- Every operation's encoding fits its row, and the words that fit the row decode to an operation of that row. -/
theorem tableRows : ∀ i : Instr, Laws.TableRows.Statement i
  | .init => Laws.TableRows.init
  | .request pin p => Laws.TableRows.request pin p
  | .service => Laws.TableRows.service
  | .setMaxTries n => Laws.TableRows.setMaxTries n
  | .canStart => Laws.TableRows.canStart
  | .getResult => Laws.TableRows.getResult
  | .isSuccess => Laws.TableRows.isSuccess
  | .isBusy => Laws.TableRows.isBusy
  | .isError => Laws.TableRows.isError
  | .isTooManyRetries => Laws.TableRows.isTooManyRetries
  | .getTempC => Laws.TableRows.getTempC
  | .getTempF => Laws.TableRows.getTempF
  | .getHumidity => Laws.TableRows.getHumidity
  | .getDewPointC => Laws.TableRows.getDewPointC
  | .getDewPointF => Laws.TableRows.getDewPointF
  | .getTries => Laws.TableRows.getTries
  | .svcIdle => Laws.TableRows.svcIdle
  | .startWait => Laws.TableRows.startWait
  | .startGo => Laws.TableRows.startGo
  | .sendStartWait => Laws.TableRows.sendStartWait
  | .sendStartGo => Laws.TableRows.sendStartGo
  | .sendStartFail => Laws.TableRows.sendStartFail
  | .samplingWait => Laws.TableRows.samplingWait
  | .samplingTimeout => Laws.TableRows.samplingTimeout
  | .samplingRetry => Laws.TableRows.samplingRetry
  | .samplingExhausted => Laws.TableRows.samplingExhausted
  | .samplingSuccess => Laws.TableRows.samplingSuccess
  | .reqAccept pin p => Laws.TableRows.reqAccept pin p
  | .reqBusy p => Laws.TableRows.reqBusy p

/-- A word that fits a row has a meaning, and the meaning is an operation of that row. -/
theorem decode_of_fits {w : OpWord} {i : Instr} (h : w.fits i.row = true) : ∃ j, decode w = .ok j ∧ j.row = i.row := by
  have hrow := (tableRows i).2 w h
  cases hd : decode w with
  | ok j => exact ⟨j, rfl, by simpa [hd, Except.map] using hrow⟩
  | error e => simp [hd, Except.map] at hrow

/-- Settles O11: a word that fits a row has a meaning, and a word with a meaning is the encoding of that meaning, which
fits its row. -/
theorem reservedWordsAreThoseOfNoRow : Obligations.ReservedWordsAreThoseOfNoRow := by
  intro w
  constructor
  · rintro ⟨e, he⟩ i
    by_contra hfits
    rw [Bool.not_eq_false] at hfits
    obtain ⟨j, hj, -⟩ := decode_of_fits hfits
    exact absurd (he.symm.trans hj) nofun
  · intro hnone
    cases hd : decodeCommand w with
    | error e => exact ⟨e, rfl⟩
    | ok i =>
      have hfits := (tableRows i).1
      rw [commandWordIsTheEncodingOfItsMeaning w i hd, hnone i] at hfits
      cases hfits

/-- The row of a transition is named by the word that encodes it (30_encoding R95). -/
theorem transition_row (t : Transition) : ∃ code mask, t.toInstr.row = .sel code mask ∧ encode t.toInstr = .sel code := by
  cases t <;> exact ⟨_, _, rfl, rfl⟩

/-- Transitions of one row are one transition: they have one encoding. -/
theorem toInstr_eq_of_row_eq {t u : Transition} (h : t.toInstr.row = u.toInstr.row) : t.toInstr = u.toInstr := by
  obtain ⟨c, m, hrow, henc⟩ := transition_row t
  obtain ⟨c', m', hrow', henc'⟩ := transition_row u
  obtain ⟨rfl, -⟩ : c = c' ∧ m = m' := by simpa [hrow, hrow'] using h
  have ht := decodeOfEncodeIsTheInstruction t.toInstr
  rw [henc, ← henc', decodeOfEncodeIsTheInstruction] at ht
  exact (Except.ok.inj ht).symm

/-- The rows cover the selector words (30_encoding R95): each of the 512 fits the row of what it decodes to. -/
theorem selector_fits_decoded_row : ∀ w : BitVec 9, (OpWord.sel w).fits (decodeSelector w).row = true := by decide

/-- Settles O12: each word fits the row of what it decodes to, and no other, since rows tell the transitions apart. -/
theorem selectorRowsPartitionAllWords : Obligations.SelectorRowsPartitionAllWords := by
  refine ⟨⟨rfl, rfl, rfl, rfl⟩, fun w t => ⟨fun hfits => ?_, fun hdecode => ?_⟩⟩
  · obtain ⟨j, hj, hrow⟩ := decode_of_fits hfits
    cases hj
    exact toInstr_eq_of_row_eq hrow
  · rw [← hdecode]
    exact selector_fits_decoded_row w

/-! ### A reserved word in the step -/

/-- A step on a reserved command word. -/
theorem step_reserved {s : State} {w : CommandWord} {now : Time} {capOk : Bool} {rest : List Move} {e : DecodeError}
    (hm : s.moves = .command w now capOk :: rest) (hd : decodeCommand w = .error e) :
    step s = reservedCommand (beginCommand now capOk rest s) := by
  simp only [step, hm, runCommand, hd]

/-- Settles O5: `reservedCommand` answers 0 with `cmd_err` in the state `beginCommand` leaves, and writes nothing else. -/
theorem reservedWordRaisesOnlyTheErrorOutput : Obligations.ReservedWordRaisesOnlyTheErrorOutput := by
  intro s w now capOk rest e hm hd
  exact step_reserved hm hd

end Sys2Proof.Machine
end

section
/-! The Sample record (30_encoding R87, R97): packing and unpacking are inverse to each other. -/

namespace Sys2Proof.Machine

theorem ofRecord_toRecord (s : Sample) : Sample.ofRecord s.toRecord = s := by
  simp only [Sample.ofRecord, record_profile, record_status, record_tries, record_b0, record_b1, record_b2, record_b3,
    record_b4, profile_ofCode_code, status_ofCode_code]

/-- The eight fields of a record, joined from the top, are the record. -/
theorem toRecord_ofRecord (r : BitVec 51) : (Sample.ofRecord r).toRecord = r := by
  simp only [Sample.toRecord, Sample.ofRecord, profile_code_ofCode, status_code_ofCode]
  simp (disch := rfl) only [append_adjacent]
  exact extract_all r

/-- Settles O13: the record's fields are the Sample's, and they leave no bit of the record out. -/
theorem sampleRecordRoundTrip : Obligations.SampleRecordRoundTrip := ⟨ofRecord_toRecord, toRecord_ofRecord⟩

end Sys2Proof.Machine
end

section
/-! The host commands (40_host_commands): every command word completes, what INIT and SETMAXTRIES write, that a SERVICE takes
the one transition whose row fits the selector, and what the two queries and the ten accessors answer. -/

namespace Sys2Proof.Machine

/-! ### The responses -/

/-- A truth value in the response, bit 0 (30_encoding R86). -/
theorem truthResponse_decide (P : Prop) [Decidable P] :
    truthResponse (decide P) = if P then 1#64 else 0#64 := by
  by_cases h : P <;> simp [h, truthResponse]

theorem countResponse_toNat (n : Byte) : (countResponse n).toNat = n.toNat :=
  BitVec.toNat_setWidth_of_le (by decide)

theorem sample_isSuccess_iff {r : Sample} : r.isSuccess = true ↔ r.status = .success := decide_eq_true_iff

/-- A query whose response is the truth value of `P` answers 1 or 0 and changes nothing. -/
theorem exec_truthQuery {i : Instr} {s : State} {P : Prop} [Decidable P] (hi : isQuery i = true)
    (hr : queryResponse s i = truthResponse (decide P)) :
    exec i s = .next (s.answering (if P then 1#64 else 0#64)) := by
  rw [exec_query hi, hr, truthResponse_decide, respond_eq_answering]

/-- The selector's word decodes to the selector's transition. -/
theorem decodeSelector_toWord (q : Sel) : decodeSelector q.toWord = q.transition.toInstr := by
  rw [decodeSelector, Sel.ofWord_toWord]

/-! ### The statements -/

/-- Settles O6: a word with a meaning runs an operation, and each operation answers a next state; a reserved word has the
next state of O5. -/
theorem everyCommandWordCompletes : Obligations.EveryCommandWordCompletes := by
  rintro s ⟨w, now, capOk, rest, hm⟩
  cases hd : decodeCommand w with
  | ok i => rw [step_command hm hd]; exact exec_answers_next i _
  | error e => exact ⟨_, reservedWordRaisesOnlyTheErrorOutput s w now capOk rest e hm hd⟩

/-- Settles O18: the selector's word fits only the row of the transition it decodes to, and that is the one SERVICE takes. -/
theorem serviceTakesTheOneMatchingTransition : Obligations.ServiceTakesTheOneMatchingTransition := by
  intro s t hfits
  obtain ⟨-, hrows⟩ := selectorRowsPartitionAllWords
  have ht : (selector s).transition.toInstr = t.toInstr := by
    rw [← decodeSelector_toWord]; exact (hrows _ t).mp hfits
  exact ⟨takeTransition (selector s).transition s, by rw [← ht, exec_transition], exec_service s⟩

/-- Settles O20: below bit 51 the response is the record, and each field of the record is the Sample's. -/
theorem getResultAnswersTheRecord : Obligations.GetResultAnswersTheRecord := by
  refine ⟨⟨rfl, rfl, rfl, rfl⟩, ⟨rfl, rfl⟩, fun s => ⟨recordResponse s.result, exec_query rfl s, recordResponse_top _, ?_⟩⟩
  simp (disch := decide) only [recordResponse_field, record_profile, record_status, record_tries, record_b0, record_b1,
    record_b2, record_b3, record_b4, and_self]

/-- Settles O23: each of the five answers its value with the success predicate as `defined`. -/
theorem derivedValuesAreAnsweredOnSuccess : Obligations.DerivedValuesAreAnsweredOnSuccess := by
  intro s q hq
  have hexec : exec q.1 s = .next (s.answering (valueResponse s.result.isSuccess q.2)) := by
    simp only [List.mem_cons, List.not_mem_nil, or_false] at hq
    rcases hq with rfl | rfl | rfl | rfl | rfl <;> exact exec_query rfl s
  refine ⟨_, hexec, valueResponse_top _ _, ?_, fun _ => valueResponse_value _ _⟩
  rw [valueResponse_defined, sample_isSuccess_iff]

/-- Settles O25: the twelve are queries, and a query only answers. -/
theorem queriesChangeNoRegister : Obligations.QueriesChangeNoRegister := by
  intro s t i hi h
  have hq : isQuery i = true := List.all_eq_true.mp (by decide) i hi
  rw [exec_query hq] at h
  cases h
  exact ⟨rfl, fun _ => rfl⟩

/-- Settles O14: `execInit` writes `inited` and the response. -/
theorem initSetsInitedAndNothingElse : Obligations.InitSetsInitedAndNothingElse :=
  ⟨decodeOfEncodeIsTheInstruction .init, fun _ => rfl⟩

/-- Settles O17: the operand is the low byte of the word, and `execSetMaxTries` writes it and the response. -/
theorem setMaxTriesWritesTheSetting : Obligations.SetMaxTriesWritesTheSetting := by
  intro s n
  have hword : 0x4#4 ++ 0#4 ++ n = 0x4000#16 ||| n.setWidth 16 := by
    rw [BitVec.append_def]; rfl
  exact ⟨congrArg OpWord.cmd hword, rfl⟩

/-- Settles O19: the response of CANSTART is the truth value of being Idle. -/
theorem canStartAnswersIdle : Obligations.CanStartAnswersIdle :=
  ⟨decodeOfEncodeIsTheInstruction .canStart, fun _ => exec_truthQuery rfl rfl⟩

/-- Settles O21: the response of each predicate is the truth value of its status being the stored one. -/
theorem predicatesAnswerTheStatus : Obligations.PredicatesAnswerTheStatus := fun _ =>
  ⟨exec_truthQuery rfl rfl, exec_truthQuery rfl rfl, exec_truthQuery rfl rfl, exec_truthQuery rfl rfl⟩

/-- Settles O22: ISBUSY asks for a status the invariant excludes. -/
theorem isBusyAnswersZero : Obligations.IsBusyAnswersZero := by
  intro s hinv
  obtain ⟨-, hbusy, -⟩ := predicatesAnswerTheStatus s
  rw [hbusy, if_neg hinv.neverBusy]

/-- Settles O24: the response of GETTRIES is the count, zero-extended. -/
theorem getTriesAnswersTheCount : Obligations.GetTriesAnswersTheCount := fun s =>
  ⟨countResponse s.result.tries, exec_query rfl s, countResponse_toNat _⟩

end Sys2Proof.Machine
end

section
/-! The operations of the acquisition state machine one by one (41_acquisition_fsm R141 to R157): which transition a SERVICE
selects in each state, what a SERVICE and a REQUEST then answer, and the calls made on leaving SendStart. -/

namespace Sys2Proof.Machine

/-! ### The calls of the transitions that leave SendStart -/

theorem calling_calling (s : State) (cs ds : List ExternalCall) :
    (s.calling cs).calling ds = s.calling (cs ++ ds) := by
  simp only [State.calling, List.append_assoc]

/-- The sequence that leaves SendStart as one update and its two calls (41 R145). -/
theorem leaveSendStart_eq_calling (s : State) :
    leaveSendStart s =
      State.calling
        { s with
          lineDir := .input, capDone := false
          result := { s.result with tries := s.result.tries + 1#8 } }
        [.gpioInput s.pin, .captureStart s.pin] := by
  simp only [leaveSendStart, gpioInput, captureStart, callDevice, State.calling, List.append_assoc, List.cons_append,
    List.nil_append]

/-- `Capture.stop` after other calls is one more call, and the buffer is given up (20_memory R77). -/
theorem captureStop_calling (s : State) (cs : List ExternalCall) :
    captureStop (s.calling cs) =
      (State.calling { s with capturing := false } (cs ++ [.captureStop])).discarding (discardBuffer s).buf
        (s.discards + 1) :=
  congrArg (State.discarding · (discardBuffer s).buf (s.discards + 1))
    (calling_calling { s with capturing := false } cs [.captureStop])

/-! ### The selected transition, state by state (41 R155, 60_exceptions R229) -/

variable {s : State}

theorem frameValid_eq_false_iff :
    frameValid s = false ↔ ¬((decodeBuffer s).1 = true ∧ checksum (decodeBuffer s).2 = true) := by
  rw [← Bool.not_eq_true, frameValid_iff]

theorem selected_of_idle (hs : s.state = .idle) : (selector s).transition = .svcIdle := by
  simp only [selector, Sel.transition, hs]

theorem selected_of_start (hs : s.state = .start) :
    (selector s).transition = if gateOpen s then .startGo else .startWait := by
  simp only [selector, Sel.transition, hs]

theorem selected_of_sendStart (hs : s.state = .sendStart) :
    (selector s).transition =
      if pulseDone s then (if s.capOk then .sendStartGo else .sendStartFail) else .sendStartWait := by
  simp only [selector, Sel.transition, hs]

theorem selected_of_noCapture (hs : s.state = .sampling) (hd : s.capDone = false) :
    (selector s).transition = if waitExpired s then .samplingTimeout else .samplingWait := by
  simp only [selector, Sel.transition, hs, hd, Bool.false_eq_true, if_false]

theorem selected_of_capture (hs : s.state = .sampling) (hd : s.capDone = true) :
    (selector s).transition =
      if frameValid s then .samplingSuccess else if budgetSpent s then .samplingExhausted else .samplingRetry := by
  simp only [selector, Sel.transition, hs, hd, if_true]

/-! ### What a SERVICE and a REQUEST answer -/

/-- A SERVICE answers 0 in the state its selected transition leaves (40_host_commands R113). -/
theorem exec_service_selected {tr : Transition} {t : State} (hsel : (selector s).transition = tr)
    (hrun : exec tr.toInstr s = .next t) : exec .service s = .next (t.answering 0#64) := by
  rw [exec_transition] at hrun
  cases hrun
  rw [exec_service, hsel, respond_eq_answering, noResponse]

/-- A REQUEST in Idle answers 0 in the state REQ.ACCEPT leaves (40_host_commands R112). -/
theorem exec_request_idle (hs : s.state = .idle) (pin : Byte) (p : Profile) :
    exec (.request pin p) s = .next ((reqAccept pin p s).answering 0#64) := by
  simp only [exec, execRequest, hs, if_true, respond_eq_answering, noResponse]

/-- A REQUEST in flight answers 0 in the state REQ.BUSY leaves (40_host_commands R112). -/
theorem exec_request_inFlight (hs : s.state ≠ .idle) (pin : Byte) (p : Profile) :
    exec (.request pin p) s = .next ((reqBusy p s).answering 0#64) := by
  simp only [exec, execRequest, hs, if_false, respond_eq_answering, noResponse]

end Sys2Proof.Machine
end

section
/-! The statements about single operations of the acquisition state machine (41_acquisition_fsm R141 to R157). Each gives
the transition's effect, and a SERVICE or REQUEST inherits it from the transition it selects. -/

namespace Sys2Proof.Machine

/-- Settles O15: REQ.ACCEPT writes the pin, the cleared Sample register and the state. -/
theorem requestInIdleIsAccepted : Obligations.RequestInIdleIsAccepted := by
  intro s pin p
  exact ⟨rfl, rfl, fun hidle => exec_request_idle hidle pin p⟩

/-- Settles O16: REQ.BUSY emits the Busy Sample of the rejected profile. -/
theorem requestInFlightIsAnsweredBusy : Obligations.RequestInFlightIsAnsweredBusy := by
  intro s pin p
  exact ⟨rfl, rfl, fun hflight => exec_request_inFlight hflight pin p⟩

/-- Settles O26: in Idle the selected transition is SVC.IDLE. -/
theorem serviceInIdleDoesNothing : Obligations.ServiceInIdleDoesNothing :=
  ⟨rfl, fun _ => ⟨rfl, fun hs => exec_service_selected (selected_of_idle hs) rfl⟩⟩

/-- Settles O27: in Start the gate decides between the two transitions. -/
theorem serviceInStartHoldsTheMinimumInterval : Obligations.ServiceInStartHoldsTheMinimumInterval := by
  refine ⟨rfl, rfl, fun s => ⟨rfl, rfl, fun hs hearly => ?_, fun hs hdue => ?_⟩⟩
  · have hsel : (selector s).transition = .startWait := by
      rw [selected_of_start hs, gateOpen_eq_false_iff.mpr hearly]; rfl
    exact exec_service_selected hsel rfl
  · have hsel : (selector s).transition = .startGo := by rw [selected_of_start hs, if_pos (gateOpen_iff.mpr hdue)]
    exact exec_service_selected hsel rfl

/-- Settles O28: in SendStart before the end of the pulse the selected transition is SENDSTART.WAIT. -/
theorem serviceInSendStartHoldsTheLine : Obligations.ServiceInSendStartHoldsTheLine := by
  refine ⟨rfl, fun s => ⟨rfl, fun hs hearly => ?_⟩⟩
  have hsel : (selector s).transition = .sendStartWait := by
    rw [selected_of_sendStart hs, pulseDone_eq_false_iff.mpr hearly]; rfl
  exact exec_service_selected hsel rfl

/-- Settles O29: both transitions make the two calls of `leaveSendStart`, the failed one then stops the peripheral. -/
theorem endOfTheStartPulseForksOnTheAnswer : Obligations.EndOfTheStartPulseForksOnTheAnswer := by
  refine ⟨rfl, rfl, fun s => ?_⟩
  intro sampling outcome failed
  have hgo : exec .sendStartGo s = .next sampling := by
    simp only [exec, execSendStartGo, sendStartGo, leaveSendStart_eq_calling]; rfl
  have hfail : exec .sendStartFail s = .next (failed.discarding (discardBuffer s).buf (s.discards + 1)) := by
    simp only [exec, execSendStartFail, sendStartFail, leaveSendStart_eq_calling, captureStop_calling]; rfl
  refine ⟨hgo, fun hs hdue hok => ?_, _, _, hfail, fun hs hdue hok => ?_⟩
  · have hsel : (selector s).transition = .sendStartGo := by
      rw [selected_of_sendStart hs, if_pos (pulseDone_iff.mpr hdue), if_pos hok]
    exact exec_service_selected hsel hgo
  · have hsel : (selector s).transition = .sendStartFail := by
      rw [selected_of_sendStart hs, if_pos (pulseDone_iff.mpr hdue), hok]; rfl
    exact exec_service_selected hsel hfail

/-- Settles O30: with no capture and the wait not over the selected transition is SAMPLING.WAIT. -/
theorem serviceInSamplingWaitsForTheCapture : Obligations.ServiceInSamplingWaitsForTheCapture := by
  refine ⟨rfl, fun s => ⟨rfl, fun hs hd hearly => ?_⟩⟩
  have hsel : (selector s).transition = .samplingWait := by
    rw [selected_of_noCapture hs hd, waitExpired_eq_false_iff.mpr hearly]; rfl
  exact exec_service_selected hsel rfl

/-- Settles O31: with no capture and the wait over the selected transition is SAMPLING.TIMEOUT. -/
theorem boundedWaitCompletesWithError : Obligations.BoundedWaitCompletesWithError := by
  refine ⟨rfl, fun s => ⟨(discardBuffer s).buf, s.discards + 1, rfl, fun hs hd hover => ?_⟩⟩
  have hsel : (selector s).transition = .samplingTimeout := by
    rw [selected_of_noCapture hs hd, if_pos (waitExpired_iff.mpr hover)]
  exact exec_service_selected hsel rfl

/-- Settles O32: an invalid frame below the budget selects SAMPLING.RETRY. -/
theorem invalidFrameWithBudgetLeftIsRetried : Obligations.InvalidFrameWithBudgetLeftIsRetried := by
  refine ⟨rfl, fun s => ⟨(discardBuffer s).buf, s.discards + 1, rfl, fun hs hd hinvalid hleft => ?_⟩⟩
  have hsel : (selector s).transition = .samplingRetry := by
    rw [selected_of_capture hs hd, frameValid_eq_false_iff.mpr hinvalid, budgetSpent_eq_false_iff.mpr hleft]; rfl
  exact exec_service_selected hsel rfl

/-- Settles O33: an invalid frame at the budget selects SAMPLING.EXHAUSTED. -/
theorem invalidFrameWithBudgetSpentCompletesWithTooManyRetries :
    Obligations.InvalidFrameWithBudgetSpentCompletesWithTooManyRetries := by
  refine ⟨rfl, fun s => ⟨(discardBuffer s).buf, s.discards + 1, rfl, fun hs hd hinvalid hspent => ?_⟩⟩
  have hsel : (selector s).transition = .samplingExhausted := by
    rw [selected_of_capture hs hd, frameValid_eq_false_iff.mpr hinvalid, budgetSpent_iff.mpr hspent]; rfl
  exact exec_service_selected hsel rfl

/-- Settles O34: a valid frame selects SAMPLING.SUCCESS, whatever the budget. -/
theorem validFrameCompletesWithSuccess : Obligations.ValidFrameCompletesWithSuccess := by
  refine ⟨rfl, fun s => ⟨(discardBuffer s).buf, s.discards + 1, rfl, fun hs hd hframing hsum => ?_⟩⟩
  have hsel : (selector s).transition = .samplingSuccess := by
    rw [selected_of_capture hs hd, if_pos (frameValid_iff.mpr ⟨hframing, hsum⟩)]
  exact exec_service_selected hsel rfl

end Sys2Proof.Machine
end

section
/-! The runs of the acquisition state machine (41_acquisition_fsm R140, R147, R158 to R160): the diagram, the minimum
interval, and the retry budget. -/

namespace Sys2Proof.Machine

/-! ### The diagram and the line -/

/-- A SERVICE that changes the state moves along an arrow of the diagram (41 R140). -/
theorem service_follows_diagram {s : State}
    (h : (takeTransition (selector s).transition s).state ≠ s.state) :
    (s.state, (takeTransition (selector s).transition s).state) ∈
      [(AcqState.start, AcqState.sendStart), (.sendStart, .sampling), (.sendStart, .idle), (.sampling, .idle),
        (.sampling, .start)] := by
  rcases service_cases s with ht | ⟨hs, -, ht⟩ | ⟨hs, -, -, ht⟩ | ⟨hs, -, -, ht⟩ | ⟨hs, -, -, ht⟩ | ⟨hs, -, -, -, ht⟩ |
    ⟨hs, -, -, -, ht⟩ | ⟨hs, -, -, ht⟩ <;> rw [ht] at h ⊢
  · exact absurd rfl h
  · simp [hs, startGo]
  · simp [hs, sendStartGo]
  · simp [hs, sendStartFail]
  · simp [hs, samplingTimeout]
  · simp [hs, samplingRetry]
  · simp [hs, samplingExhausted]
  · simp [hs, samplingSuccess]

/-- A SERVICE that turns the line to output is the end of a wait in Start (41 R143). -/
theorem service_drives_line {s : State} (hin : s.lineDir = .input)
    (hout : (takeTransition (selector s).transition s).lineDir = .output) : s.state = .start ∧ gateOpen s = true := by
  rcases service_cases s with ht | ⟨hs, hg, ht⟩ | ⟨-, -, -, ht⟩ | ⟨-, -, -, ht⟩ | ⟨-, -, -, ht⟩ | ⟨-, -, -, -, ht⟩ |
    ⟨-, -, -, -, ht⟩ | ⟨-, -, -, ht⟩ <;> rw [ht] at hout
  · cases hin.symm.trans hout
  · exact ⟨hs, hg⟩
  · cases hout
  · cases hout
  · cases hin.symm.trans hout
  · cases hin.symm.trans hout
  · cases hin.symm.trans hout
  · cases hin.symm.trans hout

/-- A SERVICE that enters Start from another state is a retry (41 R150). -/
theorem service_enters_start {s : State} (hs : s.state ≠ .start)
    (ht : (takeTransition (selector s).transition s).state = .start) :
    s.state = .sampling ∧ s.capDone = true ∧ budgetSpent s = false ∧
      takeTransition (selector s).transition s = samplingRetry s := by
  rcases service_cases s with he | ⟨hs', -, he⟩ | ⟨-, -, -, he⟩ | ⟨-, -, -, he⟩ | ⟨-, -, -, he⟩ | ⟨hs, hd, -, hb, he⟩ |
    ⟨-, -, -, -, he⟩ | ⟨-, -, -, he⟩ <;> rw [he] at ht
  · exact absurd ht hs
  · exact absurd hs' hs
  · cases ht
  · cases ht
  · cases ht
  · exact ⟨hs, hd, hb, he⟩
  · cases ht
  · cases ht

/-- Settles O49: of the moves that are no reset, only an accepted REQUEST and a SERVICE change the state. -/
theorem stateChangesOnlyAlongTheDiagram : Obligations.StateChangesOnlyAlongTheDiagram := by
  intro s t hreset hstep hne
  rcases step_cases_not_reset hreset hstep with ⟨-, rfl⟩ | ⟨w, now, ok, rest, i, -, hd, hnext, he⟩ | ⟨_, _, _, _, -, rfl⟩ |
    ⟨_, _, -, -, -, rfl⟩
  · exact absurd rfl hne
  · rcases command_cases hd he with ⟨-, rfl⟩ | ⟨pin, p, rfl, hidle, rfl⟩ | ⟨pin, p, -, -, rfl⟩ | ⟨rfl, rfl⟩ |
      ⟨n, -, rfl⟩ | ⟨-, rfl⟩
    · exact absurd rfl hne
    · exact .inl ⟨pin, p, now, ok, rest, hnext, hidle, rfl⟩
    · exact absurd rfl hne
    · exact .inr ⟨now, ok, rest, hnext, service_follows_diagram hne⟩
    · exact absurd rfl hne
    · exact absurd rfl hne
  · exact absurd rfl hne
  · exact absurd rfl hne

/-- Settles O55: a SERVICE alone turns the line to output, and its gate is open. -/
theorem lineIsDrivenOnlyAfterTheMinimumInterval : Obligations.LineIsDrivenOnlyAfterTheMinimumInterval := by
  intro s t hstep hin hout
  rcases step_cases hstep with ⟨-, rfl⟩ | ⟨w, now, ok, rest, i, hm, hd, he⟩ | ⟨w, now, ok, rest, e, -, -, he⟩ |
    ⟨words, rest, -, -, -, rfl⟩ | ⟨rest, -, rfl⟩
  · cases hin.symm.trans hout
  · rcases command_cases hd he with ⟨-, rfl⟩ | ⟨pin, p, -, -, rfl⟩ | ⟨pin, p, -, -, rfl⟩ | ⟨rfl, rfl⟩ | ⟨n, -, rfl⟩ |
      ⟨-, rfl⟩
    · cases hin.symm.trans hout
    · cases hin.symm.trans hout
    · cases hin.symm.trans hout
    · obtain ⟨hstart, hgate⟩ := service_drives_line (s := beginCommand now ok rest s) hin hout
      exact ⟨now, ok, rest, ⟨w, hm, hd⟩, hstart, BitVec.le_def.mp (gateOpen_iff.mp hgate)⟩
    · cases hin.symm.trans hout
    · cases hin.symm.trans hout
  · cases he; cases hin.symm.trans hout
  · cases hin.symm.trans hout
  · cases hout

/-! ### The retry budget -/

/-- In Idle nothing is asked of the budget. -/
theorem withinBudget_of_idle {s : State} (h : s.state = .idle) : WithinBudget s :=
  ⟨fun hne => absurd h hne, by simp [h]⟩

/-- The budget looks at the state, the count and the setting only. -/
theorem withinBudget_of_same {s t : State} (h : WithinBudget s) (hstate : t.state = s.state)
    (htries : t.result.tries = s.result.tries) (hmax : t.maxTries = s.maxTries) : WithinBudget t := by
  have hallowed : t.attemptsAllowed = s.attemptsAllowed := by rw [State.attemptsAllowed, hmax, State.attemptsAllowed]
  constructor
  · rw [hstate, htries, hallowed]; exact h.made
  · rw [hstate, htries, hallowed]; exact h.left

/-- An accepted REQUEST begins with no attempt made, and at least one is allowed. -/
theorem reqAccept_withinBudget (pin : Byte) (p : Profile) (s : State) : WithinBudget (reqAccept pin p s) where
  made _ := Nat.zero_le _
  left _ := Nat.lt_of_lt_of_le Nat.zero_lt_one (Nat.le_max_left 1 _)

/-- A retry leaves an attempt, since the budget was not spent (41 R150). -/
theorem samplingRetry_leaves_attempt {s : State} (hleft : budgetSpent s = false) :
    (samplingRetry s).result.tries.toNat < s.attemptsAllowed :=
  Nat.lt_of_lt_of_le (budgetSpent_eq_false_iff.mp hleft) (Nat.le_max_right 1 _)

/-- The selected transition keeps the budget. -/
theorem service_keeps_budget {s : State} (hinv : Inv s) (h : WithinBudget s) :
    WithinBudget (takeTransition (selector s).transition s) := by
  rcases service_cases s with ht | ⟨hs, -, ht⟩ | ⟨hs, -, -, ht⟩ | ⟨-, -, -, ht⟩ | ⟨-, -, -, ht⟩ | ⟨-, -, -, hleft, ht⟩ |
    ⟨-, -, -, -, ht⟩ | ⟨-, -, -, ht⟩ <;> rw [ht]
  · exact h
  · have hone : s.result.tries.toNat < s.attemptsAllowed := h.left (.inl hs)
    exact ⟨fun _ => hone.le, fun _ => hone⟩
  · have hone : s.result.tries.toNat < s.attemptsAllowed := h.left (.inr hs)
    have hcount : (sendStartGo s).result.tries.toNat = s.result.tries.toNat + 1 := leaveSendStart_tries hinv hs
    exact ⟨fun _ => hcount.trans_le hone, by rintro (h | h) <;> cases h⟩
  · exact withinBudget_of_idle rfl
  · exact withinBudget_of_idle rfl
  · have hone := samplingRetry_leaves_attempt hleft
    exact ⟨fun _ => hone.le, fun _ => hone⟩
  · exact withinBudget_of_idle rfl
  · exact withinBudget_of_idle rfl

/-- A host command keeps the budget, if it is no SETMAXTRIES in flight. -/
theorem command_keeps_budget {w : CommandWord} {i : Instr} {s t : State} (hd : decodeCommand w = .ok i)
    (he : exec i s = .next t) (hinv : Inv s) (h : WithinBudget s)
    (hset : s.inFlight → ∀ n, i ≠ .setMaxTries n) : WithinBudget t := by
  rcases command_cases hd he with ⟨-, rfl⟩ | ⟨pin, p, -, -, rfl⟩ | ⟨pin, p, -, -, rfl⟩ | ⟨-, rfl⟩ | ⟨n, rfl, rfl⟩ | ⟨-, rfl⟩
  · exact withinBudget_of_same h rfl rfl rfl
  · exact withinBudget_of_same (reqAccept_withinBudget pin p s) rfl rfl rfl
  · exact withinBudget_of_same h rfl rfl rfl
  · exact withinBudget_of_same (service_keeps_budget hinv h) rfl rfl rfl
  · by_cases hidle : s.state = .idle
    · exact withinBudget_of_idle hidle
    · exact absurd rfl (hset hidle n)
  · exact withinBudget_of_same h rfl rfl rfl

/-- TooManyRetries comes out of a SERVICE at the end of the budget only (41 R151). -/
theorem service_tooManyRetries {s : State} {v : Sample} (hinv : Inv s) (h : WithinBudget s)
    (hquiet : s.out.completion = none)
    (hv : (takeTransition (selector s).transition s).out.completion = some v) (hst : v.status = .tooManyRetries) :
    v.tries.toNat = s.attemptsAllowed := by
  rcases service_cases s with ht | ⟨-, -, ht⟩ | ⟨-, -, -, ht⟩ | ⟨-, -, -, ht⟩ | ⟨-, -, -, ht⟩ | ⟨-, -, -, -, ht⟩ |
    ⟨hs, -, -, hspent, ht⟩ | ⟨-, -, -, ht⟩ <;> rw [ht] at hv
  · cases hquiet.symm.trans hv
  · cases hquiet.symm.trans hv
  · cases hquiet.symm.trans hv
  · cases hv; cases hst
  · cases hv; cases hst
  · cases hquiet.symm.trans hv
  · cases hv
    have hmade : s.result.tries.toNat ≤ s.attemptsAllowed := h.made (by simp [hs])
    have hallowed : s.attemptsAllowed ≤ s.result.tries.toNat :=
      max_le (hinv.samplingTried hs) (budgetSpent_iff.mp hspent)
    exact le_antisymm hmade hallowed
  · cases hv; cases hst

/-- Settles O57: each kind of move keeps the budget. -/
theorem everyStepKeepsTheBudget : Obligations.EveryStepKeepsTheBudget := by
  intro s t hinv h hset hstep
  rcases step_cases hstep with ⟨-, rfl⟩ | ⟨w, now, ok, rest, i, hm, hd, he⟩ | ⟨w, now, ok, rest, e, -, -, he⟩ |
    ⟨words, rest, -, -, -, rfl⟩ | ⟨rest, -, rfl⟩
  · exact h
  · refine command_keeps_budget hd he (beginCommand_keeps_inv hinv now ok rest) (withinBudget_of_same h rfl rfl rfl) ?_
    rintro hflight n rfl
    exact hset hflight ⟨n, now, ok, rest, w, hm, hd⟩
  · cases he; exact withinBudget_of_same h rfl rfl rfl
  · exact withinBudget_of_same h rfl rfl rfl
  · exact withinBudget_of_idle rfl

/-- Settles O58: the event by the two bounds on the count, the retry by the budget not spent. -/
theorem tooManyRetriesComesAtTheBudget : Obligations.TooManyRetriesComesAtTheBudget := by
  intro s t now ok rest hinv h hnext hstep
  obtain rfl := step_service hnext hstep
  refine ⟨fun v hv hst => ?_, fun hs hstart => ?_⟩
  · exact service_tooManyRetries (s := beginCommand now ok rest s) (beginCommand_keeps_inv hinv now ok rest)
      (withinBudget_of_same h rfl rfl rfl) rfl hv hst
  · obtain ⟨-, -, hleft, ht⟩ :=
      service_enters_start (s := beginCommand now ok rest s) (by simp [hs]) hstart
    rw [ht]
    exact samplingRetry_leaves_attempt hleft

/-! ### Hardware errors and the budget -/

/-- No transition of SERVICE reads `max_tries`; only the selector does (41 R147, R155). -/
theorem takeTransition_ignores_budget (tr : Transition) (s : State) (n : Byte) :
    takeTransition tr { s with maxTries := n } = { takeTransition tr s with maxTries := n } := by
  cases tr <;> rfl

/-- Without a capture the selector's transition does not look at the budget (30_encoding R95). -/
theorem selected_ignores_budget {s : State} (h : s.state = .sendStart ∨ (s.state = .sampling ∧ s.capDone = false))
    (n : Byte) : (selector { s with maxTries := n }).transition = (selector s).transition := by
  rcases h with hs | ⟨hs, hd⟩
  · rw [selected_of_sendStart hs, selected_of_sendStart (s := { s with maxTries := n }) hs]; rfl
  · rw [selected_of_noCapture hs hd, selected_of_noCapture (s := { s with maxTries := n }) hs hd]; rfl

/-- Settles O35: neither the two transitions nor, without a capture, the selector reads the budget. -/
theorem hardwareErrorIgnoresTheBudget : Obligations.HardwareErrorIgnoresTheBudget := by
  intro s n
  refine ⟨fun i hi => ?_, fun hs => ?_⟩
  · simp only [List.mem_cons, List.not_mem_nil, or_false] at hi
    rcases hi with rfl | rfl
    · exact ⟨_, _, _, exec_transition .sendStartFail s, exec_transition .sendStartFail _, rfl, rfl⟩
    · exact ⟨_, _, _, exec_transition .samplingTimeout s, exec_transition .samplingTimeout _, rfl, rfl⟩
  · have hsame : exec .service { s with maxTries := n } =
        .next (respond noResponse { takeTransition (selector s).transition s with maxTries := n }) := by
      rw [exec_service, selected_ignores_budget hs, takeTransition_ignores_budget]
    refine ⟨_, _, _, exec_service s, hsame, fun hstart => ?_⟩
    have hne : s.state ≠ .start := by rcases hs with hs | ⟨hs, -⟩ <;> simp [hs]
    obtain ⟨hsampling, hdone, -⟩ := service_enters_start hne hstart
    rcases hs with hs | ⟨-, hd⟩
    · cases hs.symm.trans hsampling
    · cases hd.symm.trans hdone

end Sys2Proof.Machine
end

section
/-! The pulse decoder: DECODE in terms of the closed high runs of the stream, and what follows for its framing, its bits, the
threshold's edges and the sensor's stream (O36 to O39). -/

namespace Sys2Proof.Machine

/-! ### DECODE by the closed high runs -/

/-- DECODE is the fold of `closeRun` over the closed high runs, and the runs after the two of the preamble are counted
(42 R172, R179). -/
theorem decodeStream_folds_runs (thr : Nat) (stream : List Bool) :
    decodeStream thr stream = (decide ((closedHighRuns stream).length = 42),
      ((closedHighRuns stream).foldl (closeRun thr) (Config.pairStart, .zero)).2) := by
  cases stream with
  | nil => rfl
  | cons first rest =>
    have hscan := scan_folds_runs thr rest (Scan.init first)
    have hpair : (rest.foldl (Scan.next thr) (Scan.init first)).pair =
        Config.pairStart + (highRunsFrom first 1 rest).length :=
      (congrArg Prod.fst hscan).trans (closeRun_counts thr _ _)
    have hframed : (rest.foldl (Scan.next thr) (Scan.init first)).pair = Config.frameBits ↔
        (highRunsFrom first 1 rest).length = 42 := by
      simp only [hpair, Config.pairStart, Config.frameBits]
      omega
    rw [closedHighRuns_cons]
    exact Prod.ext (decide_eq_decide.mpr hframed) (congrArg Prod.snd hscan :)

/-- One closed run sets frame bit `i` exactly when the pair counter stands at `i` and the run is long enough (42 R175,
R176). -/
theorem closeRun_bit (thr run : Nat) (s : Int × FrameBytes) {i : Nat} (hi : i < 40) :
    (closeRun thr s run).2.bit i = true ↔ s.2.bit i = true ∨ (s.1 = i ∧ thr < run) := by
  unfold closeRun
  split
  · next h =>
    obtain ⟨hlow, -, hlong⟩ := h
    rw [bit_setBit _ _ _ hi, Bool.or_eq_true, decide_eq_true_iff, or_comm]
    exact or_congr_right (by omega)
  · next h =>
    have : ¬ (s.1 = i ∧ thr < run) := by omega
    simp [this]

/-- After the fold, bit `i` is set when it was before or when the run that the counter numbers `i` is long enough. -/
theorem foldl_closeRun_bit (thr : Nat) {i : Nat} (hi : i < 40) (runs : List Nat) : ∀ s : Int × FrameBytes,
    (runs.foldl (closeRun thr) s).2.bit i = true ↔
      s.2.bit i = true ∨ ∃ (k run : Nat), runs[k]? = some run ∧ s.1 + k = i ∧ thr < run := by
  induction runs with
  | nil => intro s; simp
  | cons r runs ih =>
    intro s
    rw [List.foldl_cons, ih, closeRun_bit _ _ _ hi, or_assoc]
    refine or_congr_right ⟨?_, ?_⟩
    · rintro (⟨hat, hlong⟩ | ⟨k, run, hrun, hat, hlong⟩)
      · exact ⟨0, r, rfl, by simpa using hat, hlong⟩
      · exact ⟨k + 1, run, hrun, by simp only [closeRun] at hat; omega, hlong⟩
    · rintro ⟨_ | k, run, hrun, hat, hlong⟩
      · cases hrun; exact .inl ⟨by simpa using hat, hlong⟩
      · exact .inr ⟨k, run, hrun, by simp only [closeRun]; omega, hlong⟩

theorem decodeStream_framed_iff (thr : Nat) (stream : List Bool) :
    (decodeStream thr stream).1 = true ↔ (closedHighRuns stream).length = 42 := by
  rw [decodeStream_folds_runs, decide_eq_true_iff]

theorem decodeStream_bit_iff (thr : Nat) (stream : List Bool) {i : Nat} (hi : i < 40) :
    (decodeStream thr stream).2.bit i = true ↔ ∃ run, (closedHighRuns stream)[i + 2]? = some run ∧ thr < run := by
  rw [decodeStream_folds_runs, foldl_closeRun_bit thr hi, bit_zero]
  simp only [Bool.false_eq_true, false_or, Config.pairStart]
  constructor
  · rintro ⟨k, run, hrun, hat, hlong⟩
    obtain rfl : k = i + 2 := by omega
    exact ⟨run, hrun, hlong⟩
  · rintro ⟨run, hrun, hlong⟩
    exact ⟨i + 2, run, hrun, by omega, hlong⟩

/-- Settles O37: framing counts the runs, and run `i + 2` gives bit `i`. -/
theorem decodeClassifiesTheClosedHighRuns : Obligations.DecodeClassifiesTheClosedHighRuns := by
  intro thr stream
  refine ⟨decodeStream_framed_iff thr stream, fun i hi => ?_⟩
  rw [Bool.eq_iff_iff, decodeStream_bit_iff thr stream hi]
  cases (closedHighRuns stream)[i + 2]? <;> simp

/-! ### The framing by falling flips -/

/-- Each high-to-low flip closes one high run (42 R174). -/
theorem highRunsFrom_length (rest : List Bool) : ∀ (level : Bool) (run : Nat),
    (highRunsFrom level run rest).length = fallingFlips (level :: rest) := by
  induction rest with
  | nil => intro level run; rfl
  | cons b rest ih =>
    intro level run
    rw [highRunsFrom, fallingFlips]
    split
    · next h => subst h; simp [ih]
    · next h =>
      cases level with
      | false => simp [ih]
      | true =>
        obtain rfl : b = false := by simpa using h
        simp [ih, Nat.add_comm]

theorem closedHighRuns_length (stream : List Bool) : (closedHighRuns stream).length = fallingFlips stream := by
  cases stream with
  | nil => rfl
  | cons b rest => rw [closedHighRuns_cons, highRunsFrom_length]

/-- Settles O36: there are as many closed high runs as falling flips. -/
theorem framingCountsTheFallingFlips : Obligations.FramingCountsTheFallingFlips := by
  intro thr stream
  rw [decodeStream_framed_iff, closedHighRuns_length]

/-! ### The threshold's edges -/

theorem closedHighRuns_pos {stream : List Bool} {run : Nat} (h : run ∈ closedHighRuns stream) : 0 < run := by
  cases stream with
  | nil => cases h
  | cons b rest =>
    rw [closedHighRuns_cons] at h
    exact (highRunsFrom_bounds rest b 1 Nat.one_pos run h).1

theorem bit_ones : ∀ i < 40, (⟨0xFF#8, 0xFF#8, 0xFF#8, 0xFF#8, 0xFF#8⟩ : FrameBytes).bit i = true := by decide

/-- Settles O39: no run exceeds the threshold, so no bit is set; and each of the 42 runs has a sample, so with threshold 0
all are. -/
theorem thresholdEdges : Obligations.ThresholdEdges := by
  intro thr stream
  refine ⟨fun hshort => frame_ext (g := .zero) fun i hi => ?_, fun hframed => frame_ext fun i hi => ?_⟩
  · rw [bit_zero, ← Bool.not_eq_true, decodeStream_bit_iff thr stream hi]
    rintro ⟨run, hrun, hlong⟩
    exact absurd (hshort run (List.mem_of_getElem? hrun)) (by omega)
  · have hlen := (decodeStream_framed_iff 0 stream).mp hframed
    have hrun : i + 2 < (closedHighRuns stream).length := by omega
    rw [bit_ones i hi, decodeStream_bit_iff 0 stream hi]
    exact ⟨_, List.getElem?_eq_getElem hrun, closedHighRuns_pos (List.getElem_mem hrun)⟩

/-! ### The sensor's stream -/

/-- The first high run of a stream is open until the line falls, whatever low run comes before it. -/
theorem closedHighRuns_lead (lead high : Nat) (l : List Bool) :
    closedHighRuns (List.replicate lead false ++ (List.replicate (high + 1) true ++ l)) =
      highRunsFrom true (high + 1) l := by
  cases lead with
  | zero =>
    rw [List.replicate_zero, List.nil_append, List.replicate_succ, List.cons_append, closedHighRuns_cons,
      highRunsFrom_same, Nat.add_comm]
  | succ lead =>
    rw [List.replicate_succ, List.cons_append, closedHighRuns_cons, highRunsFrom_same, highRunsFrom_rise]

/-- A pair of the line closes the high run before it and leaves its own open. -/
theorem highRunsFrom_linePair (n : Nat) (p : Nat × Nat) (l : List Bool) :
    highRunsFrom true n (linePair p ++ l) = n :: highRunsFrom true (p.2 + 1) l := by
  rw [linePair, List.append_assoc, highRunsFrom_fall, highRunsFrom_rise]

/-- The high samples at the end stay open (42 R178). -/
theorem highRunsFrom_tail (n tailLow tailHigh : Nat) :
    highRunsFrom true n (List.replicate (tailLow + 1) false ++ List.replicate tailHigh true) = [n] := by
  rw [highRunsFrom_fall]
  cases tailHigh with
  | zero => rfl
  | succ k => simpa [highRunsFrom] using highRunsFrom_rise (tailLow + 1) k []

theorem highRunsFrom_linePairs (tailLow tailHigh : Nat) (pairs : List (Nat × Nat)) : ∀ n,
    highRunsFrom true n
        (pairs.flatMap linePair ++ (List.replicate (tailLow + 1) false ++ List.replicate tailHigh true)) =
      n :: pairs.map (·.2 + 1) := by
  induction pairs with
  | nil => intro n; exact highRunsFrom_tail n tailLow tailHigh
  | cons p pairs ih =>
    intro n
    rw [List.flatMap_cons, List.append_assoc, highRunsFrom_linePair, ih, List.map_cons]

/-- The closed high runs of a sensor's stream are the two of the preamble and one for each data pair (42 R183). -/
theorem closedHighRuns_sensorStream (lead high0 low0 high1 tailLow tailHigh : Nat) (pairs : List (Nat × Nat)) :
    closedHighRuns (sensorStream lead high0 low0 high1 pairs tailLow tailHigh) =
      (high0 + 1) :: (high1 + 1) :: pairs.map (·.2 + 1) := by
  simp only [sensorStream, List.append_assoc]
  rw [closedHighRuns_lead, highRunsFrom_linePair, highRunsFrom_linePairs]

/-- Settles O38: the stream's closed high runs are the preamble's two and the forty of the pairs, which DECODE classifies
one by one. -/
theorem decodeRecoversTheSensorFrame : Obligations.DecodeRecoversTheSensorFrame := by
  intro thr lead high0 low0 high1 tailLow tailHigh pairs hforty
  have hruns := closedHighRuns_sensorStream lead high0 low0 high1 tailLow tailHigh pairs
  refine ⟨(decodeStream_framed_iff _ _).mpr (by simp [hruns, hforty]), fun i hi => ?_⟩
  rw [Bool.eq_iff_iff, decodeStream_bit_iff _ _ (by omega), hruns]
  simp [List.getElem?_eq_getElem hi]

end Sys2Proof.Machine
end

section
/-! The checksum in 8-bit arithmetic, and what the change of one byte does to it (43 R190, R193). -/

namespace Sys2Proof.Machine

/-- Adding modulo 256 at each step gives the same result as truncating the whole sum (43 R190). -/
theorem checksum_iff {f : FrameBytes} : checksum f = true ↔ f.b4 = f.b0 + f.b1 + f.b2 + f.b3 := by
  simp [checksum, BitVec.toNat_eq]

/-- Four of the five bytes of a passing frame determine the fifth: addition of bytes cancels (43 R193). -/
theorem eq_get_of_checksum_set {f : FrameBytes} {i : Nat} {v : Byte} (hi : i < 5) (hf : checksum f = true)
    (hset : checksum (f.set i v) = true) : v = f.get i := by
  rw [checksum_iff] at hf hset
  match i, hi with
  | 0, _ | 1, _ | 2, _ | 3, _ =>
    have hsums := hset.symm.trans hf
    simpa [FrameBytes.set, FrameBytes.get] using hsums
  | 4, _ => exact hset.trans hf.symm

/-- Settles O40: the sum byte passes by the 8-bit form of the check, and a changed frame that passed would hold the byte it
held before. -/
theorem checksumRejectsEverySingleByteChange : Obligations.ChecksumRejectsEverySingleByteChange := by
  refine ⟨fun b0 b1 b2 b3 => checksum_iff.mpr rfl, fun f i v hf hi hv => ?_⟩
  rw [Bool.eq_false_iff]
  exact fun hset => hv (eq_get_of_checksum_set hi hf hset)

end Sys2Proof.Machine
end

section
/-! The interpreter's formulas in arithmetic of numbers, and their ranges (44 R201 to R204, R207, R212). -/

namespace Sys2Proof.Machine

/-- The sign bit of a byte is set from 128 on. -/
theorem getLsbD_seven (b : Byte) : b.getLsbD 7 = decide (128 ≤ b.toNat) :=
  (BitVec.msb_eq_getLsbD_last b).symm.trans (BitVec.msb_eq_decide b)

/-- The mask of the 22-type's magnitude takes the byte modulo 128. -/
theorem toNat_and_low_seven (b : Byte) : (b &&& 0x7F#8).toNat = b.toNat % 128 := by
  rw [BitVec.toNat_and]
  exact Nat.and_two_pow_sub_one_eq_mod b.toNat 7

/-- A byte read as two's complement (44 R203, R204). -/
theorem toInt_byte (b : Byte) : b.toInt = if b.toNat < 128 then (b.toNat : Int) else (b.toNat : Int) - 256 := by
  rw [BitVec.toInt_eq_toNat_cond]
  split_ifs <;> omega

/-- 44 R201: the sign bit is taken off the high byte and negates the magnitude. -/
theorem t10Dht22_eq (f : FrameBytes) :
    t10Dht22 f = if f.b2.toNat < 128 then (f.b2.toNat * 256 + f.b3.toNat : Int)
      else -((f.b2.toNat - 128) * 256 + f.b3.toNat : Int) := by
  have hbyte := f.b2.isLt
  simp only [t10Dht22, getLsbD_seven, toNat_and_low_seven, decide_eq_true_eq]
  split_ifs <;> omega

/-- 44 R202, in integers throughout. -/
theorem h10Dht22_eq (f : FrameBytes) : h10Dht22 f = f.b0.toNat * 256 + f.b1.toNat := by
  simp [h10Dht22]

theorem t10_of_dht22 {s : Sample} (h : s.profile = .dht22) : s.t10 = t10Dht22 s.bytes := by simp [Sample.t10, h]

theorem h10_of_dht22 {s : Sample} (h : s.profile = .dht22) : s.h10 = h10Dht22 s.bytes := by simp [Sample.h10, h]

theorem t10_of_dht11 {s : Sample} (h : s.profile = .dht11) : s.t10 = t10Dht11 s.bytes := by simp [Sample.t10, h]

theorem h10_of_dht11 {s : Sample} (h : s.profile = .dht11) : s.h10 = h10Dht11 s.bytes := by simp [Sample.h10, h]

/-- 44 R212, the 22-type temperature: sign and 15 bits of magnitude. -/
theorem t10Dht22_range (f : FrameBytes) : -32767 ≤ t10Dht22 f ∧ t10Dht22 f ≤ 32767 := by
  have hhigh := f.b2.isLt
  have hlow := f.b3.isLt
  rw [t10Dht22_eq]
  split_ifs <;> omega

/-- 44 R212, the 22-type humidity: 16 unsigned bits. -/
theorem h10Dht22_range (f : FrameBytes) : 0 ≤ h10Dht22 f ∧ h10Dht22 f ≤ 65535 := by
  have hhigh := f.b0.isLt
  have hlow := f.b1.isLt
  rw [h10Dht22_eq]
  omega

/-- 44 R212: ten times a signed byte, which both 11-type values are. -/
theorem ten_mul_signed_range (b : Byte) : -1280 ≤ 10 * b.toInt ∧ 10 * b.toInt ≤ 1270 ∧ 10 * b.toInt % 10 = 0 := by
  have hlow : -128 ≤ b.toInt := BitVec.le_toInt b
  have hhigh : b.toInt < 128 := BitVec.toInt_lt
  omega

/-- The wider range of the two profiles' temperatures; TF100 is sized by it (44 R212). -/
theorem t10_range (s : Sample) : -32767 ≤ s.t10 ∧ s.t10 ≤ 32767 := by
  cases hprofile : s.profile with
  | dht22 => simpa only [t10_of_dht22 hprofile] using t10Dht22_range s.bytes
  | dht11 =>
    obtain ⟨hlow, hhigh, -⟩ := ten_mul_signed_range s.bytes.b2
    rw [t10_of_dht11 hprofile, t10Dht11]
    omega

/-- The wider range on each side of the two profiles' humidities (44 R212). -/
theorem h10_range (s : Sample) : -1280 ≤ s.h10 ∧ s.h10 ≤ 65535 := by
  cases hprofile : s.profile with
  | dht22 =>
    obtain ⟨hlow, hhigh⟩ := h10Dht22_range s.bytes
    rw [h10_of_dht22 hprofile]
    omega
  | dht11 =>
    obtain ⟨hlow, hhigh, -⟩ := ten_mul_signed_range s.bytes.b0
    rw [h10_of_dht11 hprofile, h10Dht11]
    omega

/-- 44 R207 is increasing, so the ends of the temperature's range give those of TF100. -/
theorem tf100_range (s : Sample) : -586606 ≤ s.tf100 ∧ s.tf100 ≤ 593006 := by
  obtain ⟨hlow, hhigh⟩ := t10_range s
  rw [Sample.tf100, fahrenheit100]
  omega

/-- Settles O41: the derived values are their formulas by definition; the 22-type temperature's bit mask and the 11-type's
signed bytes are put in arithmetic. -/
theorem interpreterFormulas : Obligations.InterpreterFormulas := by
  refine ⟨fun s => ⟨rfl, rfl, rfl⟩, fun st n f => ⟨t10Dht22_eq f, h10Dht22_eq f, ?_, ?_⟩⟩
  · exact congrArg (10 * ·) (toInt_byte f.b2)
  · exact congrArg (10 * ·) (toInt_byte f.b0)

/-- Settles O42: each profile's ranges come from the widths of its bytes, and the range of TF100, which covers all three
values, lies within the signed 32-bit integers. -/
theorem interpreterRangesFitTheResponse : Obligations.InterpreterRangesFitTheResponse := by
  intro s
  obtain ⟨htempLow, htempHigh⟩ := t10_range s
  obtain ⟨hhumLow, hhumHigh⟩ := h10_range s
  obtain ⟨hfahrLow, hfahrHigh⟩ := tf100_range s
  have hexact : ∀ x : Int, -586606 ≤ x → x ≤ 593006 → (BitVec.ofInt 32 x).toInt = x := fun x hlow hhigh =>
    BitVec.toInt_ofInt_eq_self (by decide) (by omega) (by omega)
  refine ⟨fun hprofile => ?_, fun hprofile => ?_, hfahrLow, hfahrHigh,
    hexact _ (by omega) (by omega), hexact _ (by omega) (by omega), hexact _ hfahrLow hfahrHigh⟩
  · obtain ⟨hlow, hhigh⟩ := h10Dht22_range s.bytes
    rw [h10_of_dht22 hprofile]
    exact ⟨htempLow, htempHigh, hlow, hhigh⟩
  · obtain ⟨htLow, htHigh, htTen⟩ := ten_mul_signed_range s.bytes.b2
    obtain ⟨hhLow, hhHigh, hhTen⟩ := ten_mul_signed_range s.bytes.b0
    rw [t10_of_dht11 hprofile, h10_of_dht11 hprofile]
    exact ⟨htLow, htHigh, hhLow, hhHigh, htTen, hhTen⟩

end Sys2Proof.Machine
end

section
/-! The capture peripheral's step (60_exceptions R226, 20_memory R62, R66): what it leaves in the buffer, and when there is
no such step (log 11). -/

namespace Sys2Proof.Machine

section

variable {s : State} {words : List Nat} {rest : List Move}

/-- A step on a capture move is the capture peripheral's. -/
theorem step_capture (hm : s.moves = .capture words :: rest) :
    step s = captureComplete words { s with moves := rest } := by
  simp only [step, hm]

theorem captureComplete_enabled (hen : s.captureEnabled = true) (hfit : captureFits s.cfg words = true) :
    captureComplete words s =
      .next { s with buf := Memory.fill s.buf words, capDone := true, out := .quiet } := by
  rw [captureComplete, if_pos hen, if_pos hfit]

theorem captureComplete_notEnabled (hen : ¬s.captureEnabled = true) :
    captureComplete words s = .refused .captureNotEnabled :=
  if_neg hen

theorem captureComplete_illFormed (hen : s.captureEnabled = true) (hfit : captureFits s.cfg words = false) :
    captureComplete words s = .refused .captureIllFormed := by
  rw [captureComplete, if_pos hen, hfit, if_neg Bool.false_ne_true]

/-- In a filled buffer sample `k` is a bit of the delivered word it falls into, most significant bit first (20_memory R62). -/
theorem samples_fill {p : Params} {m : Memory} (hm : Memory.wf m) (hfit : captureFits p words = true) {k : Nat}
    (hk : k < p.nSamples) :
    (samples p (Memory.fill m words))[k]? =
      (words[k / p.wordBits]?).map (fun v => v.testBit (p.wordBits - 1 - k % p.wordBits)) := by
  obtain ⟨hlen, -⟩ := captureFits_iff.mp hfit
  have hword : k / p.wordBits < words.length := by
    rw [hlen]
    exact Nat.div_lt_of_lt_mul (Nat.mul_comm _ _ ▸ hk)
  have hsample : k < (samples p (Memory.fill m words)).length := by rwa [samples_length]
  rw [List.getElem?_eq_getElem hsample, samples_getElem, sampleBit, read_fill hm hword,
    List.getElem?_eq_getElem hword, Option.map_some]

end

/-- Settles O44: each word of the filled buffer reads as delivered, and a sample is a bit of its word. -/
theorem captureStepFillsTheBufferAndSetsTheFlag : Obligations.CaptureStepFillsTheBufferAndSetsTheFlag := by
  intro s words rest hinv hm hcap hdone hinit hfit
  have hen : s.captureEnabled = true := captureEnabled_iff.mpr ⟨hcap, hdone, hinit⟩
  have hstep := (step_capture hm).trans (captureComplete_enabled (s := { s with moves := rest }) hen hfit)
  exact ⟨_, hstep, rfl, fun w hw => read_fill hinv.bufCanonical hw, fun k hk => samples_fill hinv.bufCanonical hfit hk⟩

/-- Settles O45: the two checks of the capture move, and in a quiescent state no capture runs (10_state R42 (a)). -/
theorem captureStepNeedsItsEnables : Obligations.CaptureStepNeedsItsEnables := by
  intro s words rest hm
  have hdisabled : ¬(s.capturing = true ∧ s.capDone = false ∧ s.inited = true) →
      step s = .refused .captureNotEnabled := fun hnot =>
    (step_capture hm).trans (captureComplete_notEnabled (mt captureEnabled_iff.mp hnot))
  refine ⟨hdisabled, fun hinv hidle => hdisabled ?_, fun hcap hdone hinit hfit => ?_⟩
  · rintro ⟨hcap, -, -⟩
    cases hidle.symm.trans (hinv.capturingInSampling hcap)
  · have hen : s.captureEnabled = true := captureEnabled_iff.mpr ⟨hcap, hdone, hinit⟩
    exact (step_capture hm).trans (captureComplete_illFormed (s := { s with moves := rest }) hen hfit)

end Sys2Proof.Machine
end

section
/-! Completion events (60_exceptions R238 to R240): which transactions emit one, and what the event of a SERVICE carries. -/

namespace Sys2Proof.Machine

/-! ### SERVICE -/

/-- A SERVICE ends an acquisition by the completion sequence, with the peripheral stopped, or it emits nothing and does not
enter Idle. -/
theorem service_completion_cases {s : State} (hquiet : s.out.completion = none) :
    ((takeTransition (selector s).transition s).out.completion = none ∧
      (s.state ≠ .idle → (takeTransition (selector s).transition s).state ≠ .idle)) ∨
    (s.state ≠ .idle ∧ ∃ st u, st ≠ .busy ∧ u.capturing = false ∧ u.now = s.now ∧
      takeTransition (selector s).transition s = raiseComplete st u) := by
  rcases service_cases s with ht | ⟨-, -, ht⟩ | ⟨-, -, -, ht⟩ | ⟨hs, -, -, ht⟩ | ⟨hs, -, -, ht⟩ | ⟨-, -, -, -, ht⟩ |
    ⟨hs, -, -, -, ht⟩ | ⟨hs, -, -, ht⟩ <;> rw [ht]
  · exact .inl ⟨hquiet, id⟩
  · exact .inl ⟨hquiet, nofun⟩
  · exact .inl ⟨hquiet, nofun⟩
  · exact .inr ⟨by simp [hs], .error, captureStop (leaveSendStart s), nofun, rfl, rfl, rfl⟩
  · exact .inr ⟨by simp [hs], .error, captureStop s, nofun, rfl, rfl, rfl⟩
  · exact .inl ⟨hquiet, nofun⟩
  · exact .inr ⟨by simp [hs], .tooManyRetries, decodeOrchestration s, nofun, rfl, rfl, rfl⟩
  · exact .inr ⟨by simp [hs], .success, decodeOrchestration s, nofun, rfl, rfl, rfl⟩

/-- A SERVICE emits an event exactly when it returns to Idle. -/
theorem service_emits_iff {s : State} (hquiet : s.out.completion = none) :
    (takeTransition (selector s).transition s).out.completion ≠ none ↔
      s.state ≠ .idle ∧ (takeTransition (selector s).transition s).state = .idle := by
  rcases service_completion_cases hquiet with ⟨hnone, hstays⟩ | ⟨hflight, st, u, -, -, -, ht⟩
  · exact ⟨fun hsome => absurd hnone hsome, fun ⟨hflight, hidle⟩ => absurd hidle (hstays hflight)⟩
  · rw [ht]
    exact ⟨fun _ => ⟨hflight, rfl⟩, fun _ => nofun⟩

/-- An acquisition that ends has made an attempt: Idle is entered from SendStart, which counts one, or from Sampling. -/
theorem service_ends_tried {s : State} (hinv : Inv s) (hflight : s.state ≠ .idle)
    (hidle : (takeTransition (selector s).transition s).state = .idle) :
    1 ≤ (takeTransition (selector s).transition s).result.tries.toNat := by
  have hmoves := service_follows_diagram (s := s) (by simpa [hidle] using hflight.symm)
  have hfrom : s.state = .sendStart ∨ s.state = .sampling := by simpa [hidle] using hmoves
  rw [service_tries hinv, hidle]
  rcases hfrom with hs | hs
  · simp [hs]
  · simpa [hs] using hinv.samplingTried hs

/-! ### Every transaction -/

/-- The transaction from `s` to `t` is one of the two kinds that have an outcome to report (60_exceptions R239). -/
def ReportsOutcome (s t : State) : Prop :=
  (∃ pin p now capOk rest, s.nextIs (.request pin p) now capOk rest ∧ s.state ≠ .idle) ∨
  (∃ now capOk rest, s.nextIs .service now capOk rest ∧ s.state ≠ .idle ∧ t.state = .idle)

/-- The same for a transaction on the command `i`. -/
theorem reportsOutcome_iff {s t : State} {i : Instr} {now : Time} {ok : Bool} {rest : List Move}
    (hn : s.nextIs i now ok rest) :
    ReportsOutcome s t ↔
      ((∃ pin p, i = .request pin p) ∧ s.state ≠ .idle) ∨ (i = .service ∧ s.state ≠ .idle ∧ t.state = .idle) := by
  constructor
  · rintro (⟨pin, p, _, _, _, hreq, hflight⟩ | ⟨_, _, _, hsvc, hends⟩)
    · exact .inl ⟨⟨pin, p, (nextIs_unique hreq hn).1⟩, hflight⟩
    · exact .inr ⟨(nextIs_unique hsvc hn).1, hends⟩
  · rintro (⟨⟨pin, p, rfl⟩, hflight⟩ | ⟨rfl, hends⟩)
    · exact .inl ⟨pin, p, now, ok, rest, hn, hflight⟩
    · exact .inr ⟨now, ok, rest, hn, hends⟩

/-- A transaction on no command with a meaning has no outcome to report. -/
theorem not_reportsOutcome {s t : State} (hnone : ∀ i now ok rest, ¬s.nextIs i now ok rest) : ¬ReportsOutcome s t := by
  rintro (⟨pin, p, now, ok, rest, hn, -⟩ | ⟨now, ok, rest, hn, -⟩)
  · exact hnone _ _ _ _ hn
  · exact hnone _ _ _ _ hn

/-- A reserved word is no command with a meaning. -/
theorem not_nextIs_of_reserved {s : State} {w : CommandWord} {now : Time} {ok : Bool} {rest : List Move} {e : DecodeError}
    (hm : s.moves = .command w now ok :: rest) (hd : decodeCommand w = .error e) (i : Instr) (now' : Time) (ok' : Bool)
    (rest' : List Move) : ¬s.nextIs i now' ok' rest' := by
  rintro ⟨w', hm', hd'⟩
  cases hm.symm.trans hm'
  cases hd.symm.trans hd'

/-- A host command emits an event exactly when it is a REQUEST in flight or a SERVICE that returns to Idle. -/
theorem command_emits_iff {w : CommandWord} {i : Instr} {s t : State} (hd : decodeCommand w = .ok i)
    (he : exec i s = .next t) (hquiet : s.out.completion = none) :
    t.out.completion ≠ none ↔
      ((∃ pin p, i = .request pin p) ∧ s.state ≠ .idle) ∨ (i = .service ∧ s.state ≠ .idle ∧ t.state = .idle) := by
  rcases command_cases hd he with ⟨rfl, rfl⟩ | ⟨pin, p, rfl, hidle, rfl⟩ | ⟨pin, p, rfl, hflight, rfl⟩ | ⟨rfl, rfl⟩ |
    ⟨n, rfl, rfl⟩ | ⟨hq, rfl⟩
  · simp [hquiet]
  · simp [reqAccept, hquiet, hidle]
  · simp [reqBusy, hflight]
  · simpa using service_emits_iff hquiet
  · simp [hquiet]
  · have hreq : ¬∃ pin p, i = .request pin p := by rintro ⟨pin, p, rfl⟩; cases hq
    have hsvc : i ≠ .service := by rintro rfl; cases hq
    simp [hquiet, hreq, hsvc]

/-! ### The statements -/

/-- Settles O47: of the moves, a command with a meaning alone emits an event, and then by `command_emits_iff`. -/
theorem completionEventsAreExactlyTheOutcomes : Obligations.CompletionEventsAreExactlyTheOutcomes := by
  intro s t hmoves hstep
  change t.out.completion ≠ none ↔ ReportsOutcome s t
  rcases step_cases hstep with ⟨hm, -⟩ | ⟨w, now, ok, rest, i, hm, hd, he⟩ | ⟨w, now, ok, rest, e, hm, hd, he⟩ |
    ⟨words, rest, hm, -, -, rfl⟩ | ⟨rest, hm, rfl⟩
  · exact absurd hm hmoves
  · exact (command_emits_iff hd he rfl).trans (reportsOutcome_iff ⟨w, hm, hd⟩).symm
  · cases he
    exact iff_of_false (fun h => h rfl) (not_reportsOutcome (not_nextIs_of_reserved hm hd))
  · exact iff_of_false (fun h => h rfl) (not_reportsOutcome fun _ _ _ _ ⟨_, hm', _⟩ => nomatch hm.symm.trans hm')
  · exact iff_of_false (fun h => h rfl) (not_reportsOutcome fun _ _ _ _ ⟨_, hm', _⟩ => nomatch hm.symm.trans hm')

/-- Settles O48: a SERVICE emits by the completion sequence only, after the peripheral is stopped. -/
theorem completionCarriesTheStoredSample : Obligations.CompletionCarriesTheStoredSample := by
  intro s t now ok rest v hnext hstep hv
  obtain rfl := step_service hnext hstep
  rcases service_completion_cases (s := beginCommand now ok rest s) rfl with
    ⟨hnone, -⟩ | ⟨hflight, st, u, hbusy, hstopped, hnow, ht⟩
  · cases hnone.symm.trans hv
  · have htried (hinv : Inv s) :=
      service_ends_tried (beginCommand_keeps_inv hinv now ok rest) hflight (by rw [ht, raiseComplete_state])
    rw [ht] at hv htried ⊢
    cases hv
    exact ⟨rfl, hbusy, rfl, hnow, hstopped, htried⟩

end Sys2Proof.Machine
end

section
/-! Reset as an input and two safety rules of the acquisition (70_reset R250, R252, R254, R263): the registers after reset,
the length of the start pulse, and an acquisition without INIT. -/

namespace Sys2Proof.Machine

/-! ### Reset -/

/-- A step on a reset move. -/
theorem step_reset {s : State} {rest : List Move} (hm : s.moves = .reset :: rest) :
    step s = .next (resetBlock { s with moves := rest }) := by
  simp only [step, hm]

/-- Settles O2: `resetBlock` takes every register from `State.reset` and names the pin before the reset. -/
theorem resetInputRestoresEveryRegister : Obligations.ResetInputRestoresEveryRegister := by
  intro s rest hm
  exact ⟨_, step_reset hm, rfl, rfl, rfl, rfl, rfl, rfl, rfl, rfl, rfl, rfl, rfl, rfl, rfl, ⟨s.pin, rfl⟩, rfl, rfl⟩

/-! ### The start pulse -/

/-- A SERVICE that releases the line in SendStart comes after the end of the pulse (41 R144, R145). -/
theorem service_releases_line {s : State} (hs : s.state = .sendStart) (hout : s.lineDir = .output)
    (hin : (takeTransition (selector s).transition s).lineDir = .input) : pulseDone s = true := by
  by_contra hearly
  have hsel : (selector s).transition = .sendStartWait := by rw [selected_of_sendStart hs, if_neg hearly]
  rw [hsel] at hin
  cases hout.symm.trans hin

/-- Settles O54: of the moves that are no reset, a SERVICE alone turns the line to input, and the line is an output in
SendStart only. -/
theorem startPulseLastsAtLeast18Ms : Obligations.StartPulseLastsAtLeast18Ms := by
  intro s t hinv hreset hstep hout hin
  rcases step_cases_not_reset hreset hstep with ⟨-, rfl⟩ | ⟨w, now, ok, rest, i, -, hd, hnext, he⟩ | ⟨_, _, _, _, -, rfl⟩ |
    ⟨_, _, -, -, -, rfl⟩
  · cases hout.symm.trans hin
  · rcases command_cases hd he with ⟨-, rfl⟩ | ⟨pin, p, -, -, rfl⟩ | ⟨pin, p, -, -, rfl⟩ | ⟨rfl, rfl⟩ | ⟨n, -, rfl⟩ |
      ⟨-, rfl⟩
    · cases hout.symm.trans hin
    · cases hout.symm.trans hin
    · cases hout.symm.trans hin
    · have hdone := service_releases_line (s := beginCommand now ok rest s) (hinv.lineDriven.mp hout) hout hin
      exact ⟨now, ok, rest, hnext, BitVec.le_def.mp (pulseDone_iff.mp hdone)⟩
    · cases hout.symm.trans hin
    · cases hout.symm.trans hin
  · cases hout.symm.trans hin
  · cases hout.symm.trans hin

/-! ### An acquisition without a capture -/

/-- Before INIT no capture is complete (10_state R42 (e)). -/
theorem capDone_of_not_inited {s : State} (h : Inv s) (hinit : s.inited = false) : s.capDone = false := by
  by_contra hdone
  rw [Bool.not_eq_false] at hdone
  cases hinit.symm.trans (h.doneInited hdone)

/-- Without a capture a SERVICE completes by SENDSTART.FAIL or SAMPLING.TIMEOUT only (41 R146, R149). -/
theorem service_withoutCapture_emits_error {s : State} {v : Sample} (hd : s.capDone = false)
    (hquiet : s.out.completion = none)
    (hv : (takeTransition (selector s).transition s).out.completion = some v) : v.status = .error := by
  rcases service_cases s with ht | ⟨-, -, ht⟩ | ⟨-, -, -, ht⟩ | ⟨-, -, -, ht⟩ | ⟨-, -, -, ht⟩ | ⟨-, hd', -⟩ | ⟨-, hd', -⟩ |
    ⟨-, hd', -⟩
  · rw [ht] at hv; cases hquiet.symm.trans hv
  · rw [ht] at hv; cases hquiet.symm.trans hv
  · rw [ht] at hv; cases hquiet.symm.trans hv
  · rw [ht] at hv; cases hv; rfl
  · rw [ht] at hv; cases hv; rfl
  · cases hd.symm.trans hd'
  · cases hd.symm.trans hd'
  · cases hd.symm.trans hd'

/-- Settles O56: without INIT no capture is complete. -/
theorem withoutInitOnlyErrorCompletes : Obligations.WithoutInitOnlyErrorCompletes := by
  intro s t now ok rest v hinv hinit hnext hstep hv
  obtain rfl := step_service hnext hstep
  have hd : s.capDone = false := capDone_of_not_inited hinv hinit
  exact service_withoutCapture_emits_error (s := beginCommand now ok rest s) hd rfl hv

end Sys2Proof.Machine
end

section
/-! Termination (70_reset R262, 60_exceptions R244): the measure `waitsLeft` under each kind of move, and how many SERVICE
commands that meet the wait of their state a run can hold. -/

namespace Sys2Proof.Machine

/-! ### The measure -/

section

variable {s : State}

theorem waitsLeft_of_idle (hs : s.state = .idle) : s.waitsLeft = 0 := by
  simp only [State.waitsLeft, hs]

theorem waitsLeft_of_start (hs : s.state = .start) :
    s.waitsLeft = 3 * (s.attemptsAllowed - s.result.tries.toNat) := by
  simp only [State.waitsLeft, hs]

theorem waitsLeft_of_sendStart (hs : s.state = .sendStart) :
    s.waitsLeft = 3 * (s.attemptsAllowed - s.result.tries.toNat) - 1 := by
  simp only [State.waitsLeft, hs]

theorem waitsLeft_of_sampling (hs : s.state = .sampling) :
    s.waitsLeft = 3 * (s.attemptsAllowed - s.result.tries.toNat) + 1 := by
  simp only [State.waitsLeft, hs]

/-- An acquisition in flight has a wait before it. -/
theorem waitsLeft_pos (h : WithinBudget s) (hflight : s.inFlight) : 0 < s.waitsLeft := by
  cases hs : s.state with
  | idle => exact absurd hs hflight
  | start => rw [waitsLeft_of_start hs]; have := h.left (.inl hs); omega
  | sendStart => rw [waitsLeft_of_sendStart hs]; have := h.left (.inr hs); omega
  | sampling => rw [waitsLeft_of_sampling hs]; omega

/-- There are at most three waits for each attempt allowed: in Sampling one attempt is already made (10_state R42 (b)). -/
theorem waitsLeft_le (hinv : Inv s) (h : WithinBudget s) : s.waitsLeft ≤ 3 * s.attemptsAllowed := by
  cases hs : s.state with
  | idle => rw [waitsLeft_of_idle hs]; omega
  | start => rw [waitsLeft_of_start hs]; omega
  | sendStart => rw [waitsLeft_of_sendStart hs]; omega
  | sampling =>
    rw [waitsLeft_of_sampling hs]
    have htried : 1 ≤ s.result.tries.toNat := hinv.samplingTried hs
    have hmade : s.result.tries.toNat ≤ s.attemptsAllowed := h.made (by simp [hs])
    omega

/-- An acquisition that ends has no wait before it any more. -/
theorem waitsLeft_lt_of_idle {t : State} (h : WithinBudget s) (hflight : s.inFlight) (ht : t.state = .idle) :
    t.waitsLeft < s.waitsLeft :=
  (waitsLeft_of_idle ht).trans_lt (waitsLeft_pos h hflight)

/-! ### SERVICE -/

/-- From Start to SendStart the attempt has one wait less. -/
theorem startGo_waitsLeft_lt (h : WithinBudget s) (hs : s.state = .start) : (startGo s).waitsLeft < s.waitsLeft := by
  have hgo : (startGo s).waitsLeft = 3 * (s.attemptsAllowed - s.result.tries.toNat) - 1 := waitsLeft_of_sendStart rfl
  have hleft : s.result.tries.toNat < s.attemptsAllowed := h.left (.inl hs)
  rw [hgo, waitsLeft_of_start hs]
  omega

/-- From SendStart to Sampling one wait of the three remains of the attempt, which is now counted. -/
theorem sendStartGo_waitsLeft_lt (hinv : Inv s) (h : WithinBudget s) (hs : s.state = .sendStart) :
    (sendStartGo s).waitsLeft < s.waitsLeft := by
  have hgo : (sendStartGo s).waitsLeft = 3 * (s.attemptsAllowed - (leaveSendStart s).result.tries.toNat) + 1 :=
    waitsLeft_of_sampling rfl
  have hleft : s.result.tries.toNat < s.attemptsAllowed := h.left (.inr hs)
  rw [hgo, leaveSendStart_tries hinv hs, waitsLeft_of_sendStart hs]
  omega

/-- A retry ends the last wait of its attempt. -/
theorem samplingRetry_waitsLeft_lt (hs : s.state = .sampling) : (samplingRetry s).waitsLeft < s.waitsLeft := by
  have hretry : (samplingRetry s).waitsLeft = 3 * (s.attemptsAllowed - s.result.tries.toNat) := waitsLeft_of_start rfl
  rw [hretry, waitsLeft_of_sampling hs]
  omega

/-- A SERVICE waits, or brings the end nearer. -/
theorem service_waits_or_waitsLeft_lt (hinv : Inv s) (h : WithinBudget s) :
    takeTransition (selector s).transition s = s ∨
      (takeTransition (selector s).transition s).waitsLeft < s.waitsLeft := by
  have hends {t : State} (hflight : s.inFlight) (ht : t.state = .idle) : t.waitsLeft < s.waitsLeft :=
    waitsLeft_lt_of_idle h hflight ht
  rcases service_cases s with ht | ⟨hs, -, ht⟩ | ⟨hs, -, -, ht⟩ | ⟨hs, -, -, ht⟩ | ⟨hs, -, -, ht⟩ | ⟨hs, -, -, -, ht⟩ |
    ⟨hs, -, -, -, ht⟩ | ⟨hs, -, -, ht⟩
  · exact .inl ht
  all_goals right; rw [ht]
  · exact startGo_waitsLeft_lt h hs
  · exact sendStartGo_waitsLeft_lt hinv h hs
  · exact hends (by simp [State.inFlight, hs]) rfl
  · exact hends (by simp [State.inFlight, hs]) rfl
  · exact samplingRetry_waitsLeft_lt hs
  · exact hends (by simp [State.inFlight, hs]) rfl
  · exact hends (by simp [State.inFlight, hs]) rfl

/-- A SERVICE that meets the wait of its state leaves the state (60_exceptions R244). -/
theorem service_leaves_state (hover : s.waitOver s.now) :
    (takeTransition (selector s).transition s).state ≠ s.state := by
  cases hs : s.state with
  | idle => simp [State.waitOver, hs] at hover
  | start =>
    have hgate : gateOpen s = true := gateOpen_iff.mpr (by simpa [State.waitOver, hs] using hover)
    rw [selected_of_start hs, if_pos hgate]; nofun
  | sendStart =>
    have hpulse : pulseDone s = true := pulseDone_iff.mpr (by simpa [State.waitOver, hs] using hover)
    rw [selected_of_sendStart hs, if_pos hpulse]
    split <;> nofun
  | sampling =>
    cases hd : s.capDone with
    | true =>
      rw [selected_of_capture hs hd]
      split
      · nofun
      · split <;> nofun
    | false =>
      have hwait : waitExpired s = true := waitExpired_iff.mpr (by simpa [State.waitOver, hs, hd] using hover)
      rw [selected_of_noCapture hs hd, if_pos hwait]; nofun

/-- A SERVICE that meets the wait of its state brings the end nearer. -/
theorem service_waitsLeft_lt (hinv : Inv s) (h : WithinBudget s) (hover : s.waitOver s.now) :
    (takeTransition (selector s).transition s).waitsLeft < s.waitsLeft := by
  rcases service_waits_or_waitsLeft_lt hinv h with hwaits | hnearer
  · exact absurd (congrArg State.state hwaits) (service_leaves_state hover)
  · exact hnearer

/-- Settles O59: the SERVICE completes, leaves its state, and keeps both invariants as every step does. -/
theorem servicedWaitBringsTheEndNearer : Obligations.ServicedWaitBringsTheEndNearer := by
  intro s now ok rest hinv h hnext hover
  obtain ⟨w, hm, hd⟩ := hnext
  have hstep := (step_command hm hd).trans (exec_service (beginCommand now ok rest s))
  have hset : ¬s.nextSetsMaxTries := by
    rintro ⟨n, _, _, _, hn⟩
    cases (nextIs_unique ⟨w, hm, hd⟩ hn).1
  refine ⟨_, hstep, ?_, everyStepKeepsTheInvariant s _ hinv hstep, everyStepKeepsTheBudget s _ hinv h (fun _ => hset) hstep⟩
  exact service_waitsLeft_lt (s := beginCommand now ok rest s) (beginCommand_keeps_inv hinv now ok rest)
    (withinBudget_of_same h rfl rfl rfl) hover

/-! ### Every step -/

/-- A host command in flight, if it is no SETMAXTRIES, does not take the end further away. -/
theorem command_waitsLeft_le {w : CommandWord} {i : Instr} {t : State} (hd : decodeCommand w = .ok i)
    (he : exec i s = .next t) (hinv : Inv s) (h : WithinBudget s) (hflight : s.inFlight)
    (hset : ∀ n, i ≠ .setMaxTries n) : t.waitsLeft ≤ s.waitsLeft := by
  rcases command_cases hd he with ⟨-, rfl⟩ | ⟨pin, p, -, hidle, -⟩ | ⟨pin, p, -, -, rfl⟩ | ⟨-, rfl⟩ | ⟨n, rfl, -⟩ | ⟨-, rfl⟩
  · exact le_rfl
  · exact absurd hidle hflight
  · exact le_rfl
  · rcases service_waits_or_waitsLeft_lt hinv h with hwaits | hnearer
    · exact (congrArg State.waitsLeft hwaits).le
    · exact hnearer.le
  · exact absurd rfl (hset n)
  · exact le_rfl

/-- A step in flight, if it is no SETMAXTRIES, does not take the end further away. -/
theorem step_waitsLeft_le {t : State} (hinv : Inv s) (h : WithinBudget s) (hflight : s.inFlight)
    (hset : ¬s.nextSetsMaxTries) (hstep : step s = .next t) : t.waitsLeft ≤ s.waitsLeft := by
  rcases step_cases hstep with ⟨-, rfl⟩ | ⟨w, now, ok, rest, i, hm, hd, he⟩ | ⟨w, now, ok, rest, e, -, -, he⟩ |
    ⟨words, rest, -, -, -, rfl⟩ | ⟨rest, -, rfl⟩
  · exact le_rfl
  · refine command_waitsLeft_le (s := beginCommand now ok rest s) hd he (beginCommand_keeps_inv hinv now ok rest)
      (withinBudget_of_same h rfl rfl rfl) hflight ?_
    rintro n rfl
    exact hset ⟨n, now, ok, rest, w, hm, hd⟩
  · cases he; exact le_rfl
  · exact le_rfl
  · exact (waitsLeft_lt_of_idle h hflight rfl).le

end

/-! ### Runs -/

/-- A measure that no step before `n` raises is lowered at most as often as it says at the start: `ks` lists, in order and
from `a` on, steps that lower it. -/
theorem length_le_of_measure {m : Nat → Nat} {n : Nat} (hle : ∀ k < n, m (k + 1) ≤ m k) {ks : List Nat}
    (hsorted : ks.Pairwise (· < ·)) (hlt : ∀ k ∈ ks, k < n ∧ m (k + 1) < m k) {a : Nat} (hfrom : ∀ k ∈ ks, a ≤ k) :
    ks.length ≤ m a := by
  induction ks generalizing a with
  | nil => exact Nat.zero_le _
  | cons k ks ih =>
    obtain ⟨hfirst, hsorted⟩ := List.pairwise_cons.mp hsorted
    obtain ⟨⟨hk, hdown⟩, hlt⟩ := List.forall_mem_cons.mp hlt
    have hrest : ks.length ≤ m (k + 1) := ih hsorted hlt hfirst
    have hreach : m k ≤ m a := by
      refine Nat.le_induction (m := a) (P := fun j _ => j ≤ n → m j ≤ m a) (fun _ => le_rfl) ?_ k
        (hfrom k List.mem_cons_self) hk.le
      exact fun j _ hj hjn => (hle j hjn).trans (hj (Nat.le_of_succ_le hjn))
    simp only [List.length_cons]
    omega

/-- Both invariants hold along a run in flight without a SETMAXTRIES. -/
theorem run_keeps_invariants {run : Nat → State} {n : Nat} (hinv : Inv (run 0)) (h : WithinBudget (run 0))
    (hrun : ∀ k < n, (run k).inFlight ∧ ¬(run k).nextSetsMaxTries ∧ step (run k) = .next (run (k + 1))) {k : Nat}
    (hk : k ≤ n) : Inv (run k) ∧ WithinBudget (run k) := by
  induction k with
  | zero => exact ⟨hinv, h⟩
  | succ k ih =>
    obtain ⟨hinvk, hk'⟩ := ih (Nat.le_of_succ_le hk)
    obtain ⟨-, hset, hstep⟩ := hrun k hk
    exact ⟨everyStepKeepsTheInvariant _ _ hinvk hstep, everyStepKeepsTheBudget _ _ hinvk hk' (fun _ => hset) hstep⟩

/-- Settles O60: `waitsLeft` never rises along the run and falls at each serviced wait. -/
theorem servicedAcquisitionTerminates : Obligations.ServicedAcquisitionTerminates := by
  intro run n serviced hinv h hrun hsorted hserviced
  have hkeeps {k : Nat} (hk : k < n) : Inv (run k) ∧ WithinBudget (run k) := run_keeps_invariants hinv h hrun hk.le
  have hle : ∀ k < n, (run (k + 1)).waitsLeft ≤ (run k).waitsLeft := by
    intro k hk
    obtain ⟨hinvk, hbudget⟩ := hkeeps hk
    obtain ⟨hflight, hset, hstep⟩ := hrun k hk
    exact step_waitsLeft_le hinvk hbudget hflight hset hstep
  have hlt : ∀ k ∈ serviced, k < n ∧ (run (k + 1)).waitsLeft < (run k).waitsLeft := by
    intro k hmem
    obtain ⟨hk, now, ok, rest, hnext, hover⟩ := hserviced k hmem
    obtain ⟨hinvk, hbudget⟩ := hkeeps hk
    obtain ⟨-, -, hstep⟩ := hrun k hk
    obtain ⟨t, ht, hnearer, -⟩ := servicedWaitBringsTheEndNearer (run k) now ok rest hinvk hbudget hnext hover
    cases hstep.symm.trans ht
    exact ⟨hk, hnearer⟩
  calc serviced.length ≤ (run 0).waitsLeft :=
        length_le_of_measure (m := fun k => (run k).waitsLeft) hle hsorted hlt fun _ _ => Nat.zero_le _
    _ ≤ 3 * (run 0).attemptsAllowed := waitsLeft_le hinv h

end Sys2Proof.Machine
end
